-- ==== Sys2Proof/Word.lean ====
section
/-! DEFINITION. The kinds of value of the block (spec R6, R9, R51, R52): all unsigned, bit 0 the least significant. -/

namespace Sys2Proof

/-- A tick count: `W` = 16 bits (R6). `TCNT`, `OCR` and pulse widths wrap modulo `2^16`. -/
abbrev Ticks := BitVec 16

/-- An output-line identity, `LINE_W` = 5 bits: an opaque handle 0..31 (R6, R40). -/
abbrev Line := Fin 32

/-- A channel identifier as it stands on the command and response ports, `ID_W` = 8 bits (R6). -/
abbrev ChannelId := BitVec 8

/-- The `ANGLE` operand: whole degrees in 8 bits (R52). -/
abbrev Degrees := BitVec 8

/-- A command word, `CMD_W` = 32 bits (R6, R51). -/
abbrev CmdWord := BitVec 32

/-- An index of the channel registry, 0..8 (R14). -/
abbrev ChannelIndex := Fin 9

end Sys2Proof
end

