-- ==== Sys2Proof/Config.lean ====
section
/-! DEFINITION. The fixed and the open parameters of the block (R6, R7), the input pins of one clock cycle (R49), and
the free values: what the spec leaves open (U10) and what only the outside world decides. -/

namespace Sys2Proof

namespace Config

/-- `N`: the capacity of the channel registry (R6). -/
abbrev capacity : Nat := 9

/-- `ANGLE_MAX`: the largest accepted angle in degrees (R6). -/
abbrev angleMax : Nat := 180

/-- `SPAN_US`: the pulse range above `MIN_PULSE_US`, in microseconds (R6). -/
abbrev spanUs : Nat := 1000

/-- `FRAME_US`: the frame period in microseconds (R6). -/
abbrev frameUs : Nat := 20000

/-- `INVALID_ID`: the response of a `REGISTER` that fails with Capacity-Exceeded (R6). -/
abbrev invalidId : ChannelId := 0xFF#8

end Config

/-- The open parameters of R7, each a natural number, with their defaults. The defaults of `frameTicks`,
`zeroSlotTicks` and `ocrReset` follow the other parameters, as R7 has them. -/
structure Params where
  /-- `TICK_HZ`: ticks per second. -/
  tickHz : Nat := 1000000
  /-- `FRAME_TICKS`: the frame period in ticks. -/
  frameTicks : Nat := Config.frameUs * tickHz / 1000000
  /-- `MIN_PULSE_US`: the pulse width of angle 0, in microseconds. -/
  minPulseUs : Nat := 1000
  /-- `GUARD_TICKS`: the guard margin of the frame tail. -/
  guardTicks : Nat := 4
  /-- `LOOKAHEAD_TICKS`: the offset that the frame-tail fallback arms. -/
  lookaheadTicks : Nat := 4
  /-- `ZERO_SLOT_TICKS`: the offset armed for the slot of a zero-width channel. -/
  zeroSlotTicks : Nat := lookaheadTicks
  /-- `OCR_RESET`: the value of `OCR` after reset. -/
  ocrReset : Nat := frameTicks
deriving DecidableEq, Repr, Inhabited

/-- The input pins during one clock cycle (R49). `clk` is the step itself. -/
structure CycleIn where
  /-- `rst`: synchronous reset, active high. -/
  rst : Bool
  /-- `tick_en`: the timer counts one tick in this cycle. -/
  tickEn : Bool
  /-- `cmd_valid`: `cmd_word` holds a command to execute in this cycle. -/
  cmdValid : Bool
  /-- `cmd_word`: ignored when `cmd_valid` is 0. -/
  cmdWord : CmdWord
deriving DecidableEq, Repr, Inhabited

/-- FREE VALUE (log entry 2). The input pins in the cycle of the given number, where no input has been listed for that
cycle: the outside world may present anything. -/
opaque Config.freePins : Nat → CycleIn

/-- FREE VALUE (log entry 3). What stands on `rsp_id` in the cycle of the given number while `rsp_valid` is 0:
"unspecified (a model should treat it as any value)" (R50, U10). -/
opaque Config.freeRspId : Nat → ChannelId

end Sys2Proof
end

