-- ==== Sys2Proof/Syntax.lean ====
section
/-! DEFINITION. The operations of the block: one constructor per row of `spec/opcode_table.json` (R53 to R55). -/

namespace Sys2Proof

/-- The five client commands, the eleven reserved opcodes, the four events and the six micro-operations. -/
inductive Instr where
  /-- `REGISTER line` (R75). -/
  | register (line : Line)
  /-- `SETPULSE.ID id, ticks` (R80). -/
  | setpulseId (id : ChannelId) (ticks : Ticks)
  /-- `SETPULSE.LINE line, ticks` (R82). -/
  | setpulseLine (line : Line) (ticks : Ticks)
  /-- `SETANGLE.ID id, deg` (R90). -/
  | setangleId (id : ChannelId) (deg : Degrees)
  /-- `SETANGLE.LINE line, deg` (R91). -/
  | setangleLine (line : Line) (deg : Degrees)
  /-- Reserved opcode 0x0 (R55); the all-zero word is the listings' `NOP` (R61). -/
  | reserved0
  /-- Reserved opcode 0x6 (R55). -/
  | reserved6
  /-- Reserved opcode 0x7 (R55). -/
  | reserved7
  /-- Reserved opcode 0x8 (R55). -/
  | reserved8
  /-- Reserved opcode 0x9 (R55). -/
  | reserved9
  /-- Reserved opcode 0xA (R55). -/
  | reservedA
  /-- Reserved opcode 0xB (R55). -/
  | reservedB
  /-- Reserved opcode 0xC (R55). -/
  | reservedC
  /-- Reserved opcode 0xD (R55). -/
  | reservedD
  /-- Reserved opcode 0xE (R55). -/
  | reservedE
  /-- Reserved opcode 0xF (R55). -/
  | reservedF
  /-- `Tick`: the timer counts one tick (R72). -/
  | tick
  /-- `Dispatch`: the compare-match interrupt is taken (R94). -/
  | dispatch
  /-- `Step`: the scheduler step (R96). -/
  | step
  /-- `RESET`: the `rst` input (R129). -/
  | reset
  /-- `GetCount()` (R66). -/
  | getCount
  /-- `SetCount(ticks)` (R67). -/
  | setCount (ticks : Ticks)
  /-- `ArmCompareMatch(ticks)` (R68). -/
  | armCompareMatch (ticks : Ticks)
  /-- `OnCompareMatch(Step)` (R69): the only callback there is, so it is no operand. -/
  | onCompareMatch
  /-- `ConfigureAsOutput(line)` (R70). -/
  | configureAsOutput (line : Line)
  /-- `SetLine(line, level)` (R71); `true` is `HIGH`. -/
  | setLine (line : Line) (level : Bool)
deriving DecidableEq, Repr

end Sys2Proof
end

