-- ==== Sys2Proof/WellFormed.lean ====
section
/-! DEFINITION. What may be presented on the command port (R54): a command or a reserved opcode; an event or a
micro-operation has no encoding. Every operand field holds every value of its width (R52), so the types check the
operands. -/

namespace Sys2Proof

/-- The "format" of a row of the opcode table (R54). -/
inductive RowKind where
  | command | reserved | event | microOp
deriving DecidableEq, Repr

/-- The kind of each operation. -/
def Instr.kind : Instr → RowKind
  | .register _ | .setpulseId _ _ | .setpulseLine _ _ | .setangleId _ _ | .setangleLine _ _ => .command
  | .reserved0 | .reserved6 | .reserved7 | .reserved8 | .reserved9 | .reservedA
  | .reservedB | .reservedC | .reservedD | .reservedE | .reservedF => .reserved
  | .tick | .dispatch | .step | .reset => .event
  | .getCount | .setCount _ | .armCompareMatch _ | .onCompareMatch | .configureAsOutput _ | .setLine _ _ => .microOp

/-- An operation is well-formed as an instruction of the command port when it is no event and no micro-operation:
"the client cannot invoke them" (R54). -/
def Instr.wellFormed (i : Instr) : Bool :=
  i.kind != .event && i.kind != .microOp

end Sys2Proof
end

