-- ==== Sys2Proof/Decode.lean ====
section
/-! DEFINITION. The decoder of command words (R51 to R58), and the encoder, which writes reserved bits as 0 (R56). -/

namespace Sys2Proof

/-- `OP` = word bits 31:28 (R51). -/
def opField (w : CmdWord) : Fin 16 := (w.extractLsb' 28 4).toFin

/-- `LINE` = word bits 20:16 (R51, R52). -/
def lineField (w : CmdWord) : Line := (w.extractLsb' 16 5).toFin

/-- `ID` = word bits 23:16 (R51, R52). -/
def idField (w : CmdWord) : ChannelId := w.extractLsb' 16 8

/-- `TICKS` = word bits 15:0 (R51, R52). -/
def ticksField (w : CmdWord) : Ticks := w.extractLsb' 0 16

/-- `ANGLE` = word bits 7:0 (R51, R52). -/
def angleField (w : CmdWord) : Degrees := w.extractLsb' 0 8

/-- The decoder: total, one meaning for every 32-bit word; a reserved opcode decodes to its own `RESERVED` row, by
name (R53, R55, R58). The last arm is opcode 0xF, the only value left. -/
def decode (w : CmdWord) : Instr :=
  match opField w with
  | 0x0 => .reserved0
  | 0x1 => .register (lineField w)
  | 0x2 => .setpulseId (idField w) (ticksField w)
  | 0x3 => .setpulseLine (lineField w) (ticksField w)
  | 0x4 => .setangleId (idField w) (angleField w)
  | 0x5 => .setangleLine (lineField w) (angleField w)
  | 0x6 => .reserved6
  | 0x7 => .reserved7
  | 0x8 => .reserved8
  | 0x9 => .reserved9
  | 0xA => .reservedA
  | 0xB => .reservedB
  | 0xC => .reservedC
  | 0xD => .reservedD
  | 0xE => .reservedE
  | _ => .reservedF

/-- A line as its 5 bits. -/
def lineBits (l : Line) : BitVec 5 := BitVec.ofFin l

/-- A word that holds the field `v` at bit `lo` and up, and is 0 elsewhere. -/
def fieldAt {n : Nat} (v : BitVec n) (lo : Nat) : CmdWord := v.setWidth 32 <<< lo

/-- Format `L` (R51): `OP` 31:28, `LINE` 20:16. -/
def encodeL (op : BitVec 4) (l : Line) : CmdWord := fieldAt op 28 ||| fieldAt (lineBits l) 16

/-- Format `IT` (R51): `OP` 31:28, `ID` 23:16, `TICKS` 15:0. -/
def encodeIT (op : BitVec 4) (id : ChannelId) (t : Ticks) : CmdWord :=
  fieldAt op 28 ||| fieldAt id 16 ||| fieldAt t 0

/-- Format `LT` (R51): `OP` 31:28, `LINE` 20:16, `TICKS` 15:0. -/
def encodeLT (op : BitVec 4) (l : Line) (t : Ticks) : CmdWord :=
  fieldAt op 28 ||| fieldAt (lineBits l) 16 ||| fieldAt t 0

/-- Format `IA` (R51): `OP` 31:28, `ID` 23:16, `ANGLE` 7:0. -/
def encodeIA (op : BitVec 4) (id : ChannelId) (a : Degrees) : CmdWord :=
  fieldAt op 28 ||| fieldAt id 16 ||| fieldAt a 0

/-- Format `LA` (R51): `OP` 31:28, `LINE` 20:16, `ANGLE` 7:0. -/
def encodeLA (op : BitVec 4) (l : Line) (a : Degrees) : CmdWord :=
  fieldAt op 28 ||| fieldAt (lineBits l) 16 ||| fieldAt a 0

/-- A word of a reserved opcode, its other bits 0 (R55, R56). -/
def encodeReserved (op : BitVec 4) : CmdWord := fieldAt op 28

/-- The command word of an operation; events and micro-operations have none (R54). -/
def encode : Instr → Option CmdWord
  | .register l => some (encodeL 0x1#4 l)
  | .setpulseId id t => some (encodeIT 0x2#4 id t)
  | .setpulseLine l t => some (encodeLT 0x3#4 l t)
  | .setangleId id a => some (encodeIA 0x4#4 id a)
  | .setangleLine l a => some (encodeLA 0x5#4 l a)
  | .reserved0 => some (encodeReserved 0x0#4)
  | .reserved6 => some (encodeReserved 0x6#4)
  | .reserved7 => some (encodeReserved 0x7#4)
  | .reserved8 => some (encodeReserved 0x8#4)
  | .reserved9 => some (encodeReserved 0x9#4)
  | .reservedA => some (encodeReserved 0xA#4)
  | .reservedB => some (encodeReserved 0xB#4)
  | .reservedC => some (encodeReserved 0xC#4)
  | .reservedD => some (encodeReserved 0xD#4)
  | .reservedE => some (encodeReserved 0xE#4)
  | .reservedF => some (encodeReserved 0xF#4)
  | .tick | .dispatch | .step | .reset => none
  | .getCount | .setCount _ | .armCompareMatch _ | .onCompareMatch | .configureAsOutput _ | .setLine _ _ => none

/-- The 32-bit command word of the `nbits` low bits of `w`, every bit above them 0 (R51: one parallel 32-bit word,
bit 31 the most significant; R35: no byte order arises). -/
def commandWord (nbits w : Nat) : CmdWord := BitVec.ofNat 32 (w % 2 ^ nbits)

/-- The operation the decoder reads from an instruction whose bits are `w`. No command is longer than one 32-bit
word (R59). -/
def decodeTableWord (nbits w : Nat) : Option Instr :=
  if nbits ≤ 32 then some (decode (commandWord nbits w)) else none

end Sys2Proof
end

