-- ==== Sys2Proof/Machine/State.lean ====
section
/-! DEFINITION. The state of the block (R13 to R24), the reasons a step can stop (R8, R111), and the state after reset
(R30 to R32). There is no memory of any kind (R34). -/

namespace Sys2Proof.Machine

/-- One channel descriptor (R14): a plain record (R27). -/
structure Channel where
  /-- `REG[i].LINE`: assigned once at registration. -/
  line : Line
  /-- `REG[i].WIDTH`: the pulse width in ticks. -/
  width : Ticks
deriving DecidableEq, Repr

/-- Everything the spec gives the block (R13), its one-cycle output ports (R49), and three fields of the model's own:
the configuration, the coming inputs and the cycle number. -/
structure State where
  /-- `REG[0..8]` (R14). -/
  reg : Vector Channel 9
  /-- `COUNT`, 0..9 (R15). -/
  count : Fin 10
  /-- `CURSOR`: `none` is `NONE` (R17). -/
  cursor : Option ChannelIndex
  /-- `ARMED` (R19). -/
  armed : Bool
  /-- `TCNT` (R20). -/
  tcnt : Ticks
  /-- `OCR` (R21). -/
  ocr : Ticks
  /-- `CMF` (R22). -/
  cmf : Bool
  /-- `DIR[0..31]`: `true` is an output (R23). -/
  dir : Vector Bool 32
  /-- `LEVEL[0..31]`: `true` is high (R24). -/
  level : Vector Bool 32
  /-- The response port (R49, R50): `some id` is `rsp_valid` = 1 and `rsp_id` = `id`; `none` is `rsp_valid` = 0. -/
  rsp : Option ChannelId
  /-- `cm_strobe` (R49): 1 in the cycle after a `Dispatch`. -/
  cmStrobe : Bool
  /-- The model's own: the open parameters (R7), fixed for a run (R26, log entry 1). -/
  params : Params
  /-- The model's own: the input pins of the coming clock cycles, soonest first (R49, log entry 2). -/
  inputs : List CycleIn
  /-- The model's own: the number of the clock cycle, which the free values of `Config` are applied to (log entry 3). -/
  cycle : Nat
deriving DecidableEq, Repr

/-- The faults: there are none. "The block raises no exception, trap or fault of any kind, from any command, any
operand value, any command word or any state" (R111), so this type has no value. -/
inductive Fault
deriving DecidableEq, Repr

/-- The reasons the model gives no meaning. -/
inductive Refusal where
  /-- Raised by an arm of `exec` whose operation has no meaning yet; none is left. Safe. -/
  | notModelled (mnemonic : String)
  /-- Raised by every operation and every clock cycle in a state whose parameters are not well-formed: "A model should
  refuse (give no meaning to) a configuration that is not well-formed" (R8, U13). Safe. -/
  | illFormedConfiguration
deriving DecidableEq, Repr

/-- The block right after reset, with the default parameters (R32), no input listed and cycle number 0. -/
def State.reset : State where
  reg := Vector.replicate 9 ⟨0, 0#16⟩
  count := 0
  cursor := none
  armed := false
  tcnt := 0#16
  ocr := BitVec.ofNat 16 ({} : Params).ocrReset
  cmf := false
  dir := Vector.replicate 32 false
  level := Vector.replicate 32 false
  rsp := none
  cmStrobe := false
  params := {}
  inputs := []
  cycle := 0

end Sys2Proof.Machine
end

