-- ==== Sys2Proof/Machine/Flags.lean ====
section
/-! DEFINITION. The two flags of the block, `ARMED` and `CMF`, and what sets and enables them (R19, R22, R72, R94).
There are no condition codes. -/

namespace Sys2Proof.Machine

/-- The compare-match condition, asked after an increment of the count: `TCNT = OCR` (R72). -/
def State.countMatches (s : State) : Bool := s.tcnt == s.ocr

/-- `Dispatch` is enabled exactly when `CMF = 1` and `ARMED = 1` (R94, R115). -/
def State.dispatchEnabled (s : State) : Bool := s.cmf && s.armed

/-- The compare-match becomes pending (R22, R115). -/
def State.setPending (s : State) : State := { s with cmf := true }

/-- The pending compare-match is cleared (R22, R115). -/
def State.clearPending (s : State) : State := { s with cmf := false }

end Sys2Proof.Machine
end

