-- ==== Sys2Proof/Machine/Operands.lean ====
section
/-! DEFINITION. The arithmetic of operands: the two stages of the angle conversion (R87 to R89), tick sums and the
frame-tail remainder (R96, R101), and when a configuration is well-formed (R7, R8). -/

namespace Sys2Proof.Machine

/-- `ticks_of_us` (R88): natural-number arithmetic, rounded down. -/
def ticksOfUs (p : Params) (us : Nat) : Nat := us * p.tickHz / 1000000

/-- `pulse_us_of_angle` (R87): natural-number arithmetic, rounded down. -/
def pulseUsOfAngle (p : Params) (a : Nat) : Nat := p.minPulseUs + a * Config.spanUs / Config.angleMax

/-- `ticks_of_angle` (R89): degrees to microseconds, then microseconds to ticks. -/
def ticksOfAngle (p : Params) (a : Nat) : Nat := ticksOfUs p (pulseUsOfAngle p a)

/-- The range check of the angle commands: `deg <= ANGLE_MAX` (R90 to R92). -/
def angleAccepted (deg : Degrees) : Bool := decide (deg.toNat ≤ Config.angleMax)

/-- The tick count that an accepted angle stores. In a well-formed configuration it fits 16 bits (R88). -/
def angleWidth (p : Params) (deg : Degrees) : Ticks := BitVec.ofNat 16 (ticksOfAngle p deg.toNat)

/-- `(now + d) mod 2^W` (R96). -/
def tickSum (now : Ticks) (d : Nat) : Ticks := BitVec.ofNat 16 (now.toNat + d)

/-- The frame-tail test `FRAME_TICKS - now > GUARD_TICKS`, over the integers and strict (R101). -/
def tailHasRoom (p : Params) (now : Ticks) : Bool :=
  decide ((p.frameTicks : Int) - (now.toNat : Int) > (p.guardTicks : Int))

/-- Every constraint of the fourth column of R7 (R8). -/
def paramsWellFormed (p : Params) : Bool :=
  decide (1 ≤ p.tickHz)
    && decide (p.guardTicks < p.frameTicks)
    && decide (p.frameTicks < 2 ^ 16)
    && decide (ticksOfUs p (p.minPulseUs + Config.spanUs) < 2 ^ 16)
    && decide (1 ≤ p.lookaheadTicks)
    && decide (1 ≤ p.zeroSlotTicks)
    && decide (p.ocrReset < 2 ^ 16)

end Sys2Proof.Machine
end

