-- ==== Sys2Proof/Machine/Ops.lean ====
section
/-! DEFINITION. The named operations over the state that the meanings share: the registry, the six micro-operations
(R65 to R71), the response port (R50), the entry into the compare-match interrupt (R94, R118), and the check of the
configuration (R8). -/

namespace Sys2Proof.Machine

/-! ### The channel registry -/

/-- `REG[i]` (R14). -/
def State.chan (s : State) (i : ChannelIndex) : Channel := s.reg[i]

/-- The bounds check of every registry access: the entry of index `n`, if `n` is below the live `COUNT` (R36). -/
def State.liveIndex (s : State) (n : Nat) : Option ChannelIndex :=
  if h : n < s.count.val then some ⟨n, by have := s.count.isLt; omega⟩ else none

/-- The entry that the next `REGISTER` fills: index `COUNT`, if `COUNT < N` (R75). -/
def State.freeIndex (s : State) : Option ChannelIndex :=
  if h : s.count.val < 9 then some ⟨s.count.val, h⟩ else none

/-- `REG[i].WIDTH <- w`: one indivisible 16-bit write (R37). -/
def State.setWidth (s : State) (i : ChannelIndex) (w : Ticks) : State :=
  { s with reg := s.reg.set i { s.chan i with width := w } }

/-- Append a channel of width 0 on line `l` as entry `i` = `COUNT`: `REG[COUNT] <- (l, 0)`, `COUNT <- COUNT + 1`
(R75). -/
def State.appendChannel (s : State) (i : ChannelIndex) (l : Line) : State :=
  { s with reg := s.reg.set i ⟨l, 0#16⟩, count := i.succ }

/-- `CURSOR <- c` (R96). -/
def State.setCursor (s : State) (c : Option ChannelIndex) : State := { s with cursor := c }

/-! ### The micro-operations of the frame timer and the output lines -/

/-- `GetCount()`: the value returned, and the state, which it does not change (R66). -/
def State.getCount (s : State) : Ticks × State := (s.tcnt, s)

/-- `SetCount(t)`: `TCNT <- t`; neither sets nor clears `CMF` (R67). -/
def State.setCount (s : State) (t : Ticks) : State := { s with tcnt := t }

/-- `ArmCompareMatch(t)`: `OCR <- t`; it does not set `CMF`, even if `t = TCNT` (R68, R73). -/
def State.armCompareMatch (s : State) (t : Ticks) : State := { s with ocr := t }

/-- `OnCompareMatch(Step)`: `ARMED <- 1` (R69). -/
def State.onCompareMatch (s : State) : State := { s with armed := true }

/-- `ConfigureAsOutput(l)`: `DIR[l] <- 1` (R70). -/
def State.configureAsOutput (s : State) (l : Line) : State := { s with dir := s.dir.set l true }

/-- `SetLine(l, level)`: `LEVEL[l] <- level`; `DIR[l]` is not checked (R71). The last write in a transition wins
(R74). -/
def State.setLine (s : State) (l : Line) (high : Bool) : State := { s with level := s.level.set l high }

/-! ### The response port and the interrupt -/

/-- `respond(id)`: in the cycle after the command, `rsp_valid = 1` and `rsp_id = id` (R50). -/
def State.respond (s : State) (id : ChannelId) : State := { s with rsp := some id }

/-- The one-cycle outputs of the cycle before fall: `rsp_valid` and `cm_strobe` are 0 unless this cycle raises them
(R49, R50). -/
def State.dropStrobes (s : State) : State := { s with rsp := none, cmStrobe := false }

/-- Taking the compare-match interrupt (R94, R118): `CMF` is cleared on entry, `cm_strobe` rises for the following
cycle; nothing is saved, no mode is switched, and the handler is the hard-wired `Step`. Returning from it restores
nothing (R119), so there is no operation for the return. -/
def State.enterInterrupt (s : State) : State := { s.clearPending with cmStrobe := true }

/-! ### The configuration -/

/-- A transition under the state's configuration; a configuration that is not well-formed is refused (R8, U13). -/
def whenConfigured (s : State) (f : State → State) : Host.Outcome State Fault Refusal :=
  if paramsWellFormed s.params then .next (f s) else .refused .illFormedConfiguration

/-- One transition after another. -/
def andThen (o : Host.Outcome State Fault Refusal) (f : State → Host.Outcome State Fault Refusal) :
    Host.Outcome State Fault Refusal :=
  match o with
  | .next s => f s
  | .fault r => .fault r
  | .refused r => .refused r

end Sys2Proof.Machine
end

