-- ==== Sys2Proof/Machine/PulseSetting.lean ====
section
/-! DEFINITION. Pulse-width setting: `SETPULSE.ID` and `SETPULSE.LINE` (R80 to R85). -/

namespace Sys2Proof.Machine

/-- `SETPULSE.ID(id, ticks)` (R80): an identifier at or above `COUNT` is silently ignored (R81); the ticks are stored
verbatim (R85). -/
def State.setPulseById (s : State) (id : ChannelId) (ticks : Ticks) : State :=
  match s.liveIndex id.toNat with
  | some i => s.setWidth i ticks
  | none => s

/-- The part of the ascending scan of R82 over the entries below `n`. -/
def State.scanLine (s : State) (line : Line) (ticks : Ticks) : Nat → State
  | 0 => s
  | n + 1 =>
    let t := s.scanLine line ticks n
    match t.liveIndex n with
    | some i => if (t.chan i).line = line then t.setWidth i ticks else t
    | none => t

/-- `SETPULSE.LINE(line, ticks)` (R82): every valid entry on `line` gets the width, in one transition (R38). -/
def State.setPulseByLine (s : State) (line : Line) (ticks : Ticks) : State :=
  s.scanLine line ticks s.count.val

/-- The meaning of `SETPULSE.ID id, ticks` (R80). -/
def execSetpulseId (id : ChannelId) (ticks : Ticks) (s : State) : Host.Outcome State Fault Refusal :=
  whenConfigured s fun s => s.setPulseById id ticks

/-- The meaning of `SETPULSE.LINE line, ticks` (R82). -/
def execSetpulseLine (line : Line) (ticks : Ticks) (s : State) : Host.Outcome State Fault Refusal :=
  whenConfigured s fun s => s.setPulseByLine line ticks

end Sys2Proof.Machine
end

