-- ==== Sys2Proof/Machine/Angle.lean ====
section
/-! DEFINITION. The angle convenience layer: `SETANGLE.ID` and `SETANGLE.LINE` (R86 to R93). -/

namespace Sys2Proof.Machine

/-- `SETANGLE.ID(id, deg)` (R90): an angle above 180 is rejected silently (R92). -/
def State.setAngleById (s : State) (id : ChannelId) (deg : Degrees) : State :=
  if angleAccepted deg then s.setPulseById id (angleWidth s.params deg) else s

/-- `SETANGLE.LINE(line, deg)` (R91): an angle above 180 is rejected silently (R92). -/
def State.setAngleByLine (s : State) (line : Line) (deg : Degrees) : State :=
  if angleAccepted deg then s.setPulseByLine line (angleWidth s.params deg) else s

/-- The meaning of `SETANGLE.ID id, deg` (R90). -/
def execSetangleId (id : ChannelId) (deg : Degrees) (s : State) : Host.Outcome State Fault Refusal :=
  whenConfigured s fun s => s.setAngleById id deg

/-- The meaning of `SETANGLE.LINE line, deg` (R91). -/
def execSetangleLine (line : Line) (deg : Degrees) (s : State) : Host.Outcome State Fault Refusal :=
  whenConfigured s fun s => s.setAngleByLine line deg

end Sys2Proof.Machine
end

