-- ==== Sys2Proof/Machine/Output.lean ====
section
/-! DEFINITION. The output lines: the micro-operations `ConfigureAsOutput` and `SetLine` (R70, R71). -/

namespace Sys2Proof.Machine

/-- The meaning of `ConfigureAsOutput(line)` (R70). -/
def execConfigureAsOutput (line : Line) (s : State) : Host.Outcome State Fault Refusal :=
  whenConfigured s fun s => s.configureAsOutput line

/-- The meaning of `SetLine(line, level)` (R71). -/
def execSetLine (line : Line) (level : Bool) (s : State) : Host.Outcome State Fault Refusal :=
  whenConfigured s fun s => s.setLine line level

end Sys2Proof.Machine
end

