-- ==== Sys2Proof/Machine/Registration.lean ====
section
/-! DEFINITION. Channel registration: `REGISTER` (R75 to R79). -/

namespace Sys2Proof.Machine

/-- Arming by the first successful registration: `ARMED <- 1`, `TCNT <- 0`, `CMF <- 0`; `OCR` and `CURSOR` stay (R77). -/
def State.arm (s : State) : State := (s.onCompareMatch.setCount 0#16).clearPending

/-- `REGISTER(line)` (R75); with `COUNT = 9` it responds `INVALID_ID` and changes nothing else (R76). The identifier
is the entry's index (R79). -/
def State.register (s : State) (line : Line) : State :=
  match s.freeIndex with
  | some i =>
    let s1 := (s.configureAsOutput line).setLine line false
    let s2 := if i.val = 0 then s1.arm else s1
    (s2.appendChannel i line).respond (BitVec.ofNat 8 i.val)
  | none => s.respond Config.invalidId

/-- The meaning of `REGISTER line` (R75). -/
def execRegister (line : Line) (s : State) : Host.Outcome State Fault Refusal :=
  whenConfigured s fun s => s.register line

end Sys2Proof.Machine
end

