-- ==== Sys2Proof/Machine/Reserved.lean ====
section
/-! DEFINITION. The reserved opcodes 0x0 and 0x6 to 0xF: ignored (R55). -/

namespace Sys2Proof.Machine

/-- A command word with a reserved opcode: "no state changes, `rsp_valid` stays 0, nothing is signalled" (R55). -/
def State.ignoreCommand (s : State) : State := s

/-- The meaning of reserved opcode 0x0 (R55). -/
def execReserved0 (s : State) : Host.Outcome State Fault Refusal :=
  whenConfigured s State.ignoreCommand

/-- The meaning of reserved opcode 0x6 (R55). -/
def execReserved6 (s : State) : Host.Outcome State Fault Refusal :=
  whenConfigured s State.ignoreCommand

/-- The meaning of reserved opcode 0x7 (R55). -/
def execReserved7 (s : State) : Host.Outcome State Fault Refusal :=
  whenConfigured s State.ignoreCommand

/-- The meaning of reserved opcode 0x8 (R55). -/
def execReserved8 (s : State) : Host.Outcome State Fault Refusal :=
  whenConfigured s State.ignoreCommand

/-- The meaning of reserved opcode 0x9 (R55). -/
def execReserved9 (s : State) : Host.Outcome State Fault Refusal :=
  whenConfigured s State.ignoreCommand

/-- The meaning of reserved opcode 0xA (R55). -/
def execReservedA (s : State) : Host.Outcome State Fault Refusal :=
  whenConfigured s State.ignoreCommand

/-- The meaning of reserved opcode 0xB (R55). -/
def execReservedB (s : State) : Host.Outcome State Fault Refusal :=
  whenConfigured s State.ignoreCommand

/-- The meaning of reserved opcode 0xC (R55). -/
def execReservedC (s : State) : Host.Outcome State Fault Refusal :=
  whenConfigured s State.ignoreCommand

/-- The meaning of reserved opcode 0xD (R55). -/
def execReservedD (s : State) : Host.Outcome State Fault Refusal :=
  whenConfigured s State.ignoreCommand

/-- The meaning of reserved opcode 0xE (R55). -/
def execReservedE (s : State) : Host.Outcome State Fault Refusal :=
  whenConfigured s State.ignoreCommand

/-- The meaning of reserved opcode 0xF (R55). -/
def execReservedF (s : State) : Host.Outcome State Fault Refusal :=
  whenConfigured s State.ignoreCommand

end Sys2Proof.Machine
end

