-- ==== Sys2Proof/Machine/Reset.lean ====
section
/-! DEFINITION. The `rst` input (R129, R32). -/

namespace Sys2Proof.Machine

/-- Every state element takes its reset value (R129, R32). The model's own fields are no state of the block: the
configuration is fixed for a run (R26), and the coming inputs and the cycle number belong to the outside world. -/
def State.clearAll (s : State) : State :=
  { State.reset with
    ocr := BitVec.ofNat 16 s.params.ocrReset
    params := s.params
    inputs := s.inputs
    cycle := s.cycle }

/-- The meaning of `RESET` (R129). -/
def execReset (s : State) : Host.Outcome State Fault Refusal :=
  whenConfigured s State.clearAll

end Sys2Proof.Machine
end

