-- ==== Sys2Proof/Machine/Sequencer.lean ====
section
/-! DEFINITION. The compare-match dispatcher and the channel sequencer: `Dispatch` and `Step` (R94 to R110). -/

namespace Sys2Proof.Machine

/-- Phase A of `Step` (R96): close the open slot by driving its line low (R97), or start a frame by zeroing the count
(R98). Answers the index `c'` of the next slot beside the state. -/
def State.closeSlot (s : State) : Nat × State :=
  match s.cursor with
  | some i => (i.val + 1, s.setLine (s.chan i).line false)
  | none => (0, s.setCount 0#16)

/-- Phase B of `Step`, channel `i` is registered (R96): its width, read once, is armed and its line driven high (R99),
or, width zero, the slot is skipped and costs `ZERO_SLOT_TICKS` (R100). -/
def State.openSlot (s : State) (i : ChannelIndex) : State :=
  let now := s.getCount.1
  let width := (s.chan i).width
  let s1 := s.setCursor (some i)
  if width ≠ 0#16 then
    (s1.armCompareMatch (tickSum now width.toNat)).setLine (s.chan i).line true
  else
    s1.armCompareMatch (tickSum now s.params.zeroSlotTicks)

/-- Phase B of `Step`, all channels have had their slot (R96): arm the frame boundary (R101), or, too close to it or
past it, a short look-ahead (R102). -/
def State.enterTail (s : State) : State :=
  let now := s.getCount.1
  let s1 := s.setCursor none
  if tailHasRoom s.params now then
    s1.armCompareMatch (BitVec.ofNat 16 s.params.frameTicks)
  else
    s1.armCompareMatch (tickSum now s.params.lookaheadTicks)

/-- `Step()` (R96): one atomic transition; `COUNT` and the registry are read live (R45). -/
def State.schedulerStep (s : State) : State :=
  let closed := s.closeSlot
  match closed.2.liveIndex closed.1 with
  | some i => closed.2.openSlot i
  | none => closed.2.enterTail

/-- `Dispatch()` (R94): enabled exactly when `CMF = 1` and `ARMED = 1`; it enters the interrupt and runs exactly one
`Step` (R95). Where it is not enabled no step runs and nothing changes (log entry 5). -/
def State.dispatch (s : State) : State :=
  if s.dispatchEnabled then s.enterInterrupt.schedulerStep else s

/-- The meaning of `Dispatch` (R94). -/
def execDispatch (s : State) : Host.Outcome State Fault Refusal :=
  whenConfigured s State.dispatch

/-- The meaning of `Step` (R96). -/
def execStep (s : State) : Host.Outcome State Fault Refusal :=
  whenConfigured s State.schedulerStep

end Sys2Proof.Machine
end

