-- ==== Sys2Proof/Machine/Timer.lean ====
section
/-! DEFINITION. The frame timer: the event `Tick` (R72) and the micro-operations `GetCount`, `SetCount`,
`ArmCompareMatch`, `OnCompareMatch` (R66 to R69). -/

namespace Sys2Proof.Machine

/-- `Tick()` (R72): while `ARMED = 1` the count goes up by one modulo `2^16`, and the match becomes pending when the
incremented count equals `OCR`; while `ARMED = 0` nothing changes. -/
def State.tick (s : State) : State :=
  if s.armed then
    let s1 := s.setCount (s.tcnt + 1#16)
    if s1.countMatches then s1.setPending else s1
  else s

/-- The meaning of `Tick` (R72). -/
def execTick (s : State) : Host.Outcome State Fault Refusal :=
  whenConfigured s State.tick

/-- The meaning of `GetCount()` (R66): the value goes to its caller, `Step`; no state changes. -/
def execGetCount (s : State) : Host.Outcome State Fault Refusal :=
  whenConfigured s fun s => s.getCount.2

/-- The meaning of `SetCount(ticks)` (R67). -/
def execSetCount (ticks : Ticks) (s : State) : Host.Outcome State Fault Refusal :=
  whenConfigured s fun s => s.setCount ticks

/-- The meaning of `ArmCompareMatch(ticks)` (R68). -/
def execArmCompareMatch (ticks : Ticks) (s : State) : Host.Outcome State Fault Refusal :=
  whenConfigured s fun s => s.armCompareMatch ticks

/-- The meaning of `OnCompareMatch(Step)` (R69). -/
def execOnCompareMatch (s : State) : Host.Outcome State Fault Refusal :=
  whenConfigured s State.onCompareMatch

end Sys2Proof.Machine
end

