-- ==== Sys2Proof/Machine/Dispatch.lean ====
section
/-! DEFINITION. One arm per operation: its meaning. -/

namespace Sys2Proof.Machine

def exec (i : Instr) (s : State) : Host.Outcome State Fault Refusal :=
  match i with
  | .register line => Sys2Proof.Machine.execRegister line s
  | .setpulseId id ticks => Sys2Proof.Machine.execSetpulseId id ticks s
  | .setpulseLine line ticks => Sys2Proof.Machine.execSetpulseLine line ticks s
  | .setangleId id deg => Sys2Proof.Machine.execSetangleId id deg s
  | .setangleLine line deg => Sys2Proof.Machine.execSetangleLine line deg s
  | .reserved0 => Sys2Proof.Machine.execReserved0 s
  | .reserved6 => Sys2Proof.Machine.execReserved6 s
  | .reserved7 => Sys2Proof.Machine.execReserved7 s
  | .reserved8 => Sys2Proof.Machine.execReserved8 s
  | .reserved9 => Sys2Proof.Machine.execReserved9 s
  | .reservedA => Sys2Proof.Machine.execReservedA s
  | .reservedB => Sys2Proof.Machine.execReservedB s
  | .reservedC => Sys2Proof.Machine.execReservedC s
  | .reservedD => Sys2Proof.Machine.execReservedD s
  | .reservedE => Sys2Proof.Machine.execReservedE s
  | .reservedF => Sys2Proof.Machine.execReservedF s
  | .tick => Sys2Proof.Machine.execTick s
  | .dispatch => Sys2Proof.Machine.execDispatch s
  | .step => Sys2Proof.Machine.execStep s
  | .reset => Sys2Proof.Machine.execReset s
  | .getCount => Sys2Proof.Machine.execGetCount s
  | .setCount ticks => Sys2Proof.Machine.execSetCount ticks s
  | .armCompareMatch ticks => Sys2Proof.Machine.execArmCompareMatch ticks s
  | .onCompareMatch => Sys2Proof.Machine.execOnCompareMatch s
  | .configureAsOutput line => Sys2Proof.Machine.execConfigureAsOutput line s
  | .setLine line level => Sys2Proof.Machine.execSetLine line level s

end Sys2Proof.Machine
end

