-- ==== Sys2Proof/Machine/Cycle.lean ====
section
/-! DEFINITION. One clock cycle (R134): the inputs it takes, and the order of reset, `Tick`, `Dispatch` and `Exec`. -/

namespace Sys2Proof.Machine

/-- The cycle in which the client presents the command word `w` and no tick comes (R61). -/
def commandCycle (w : CmdWord) : CycleIn := ⟨false, false, true, w⟩

/-- The cycle in which the client presents `w` and a tick comes (R61, the prefix `T+`). -/
def tickCommandCycle (w : CmdWord) : CycleIn := ⟨false, true, true, w⟩

/-- The cycle with one tick and no command (R61, `TICK 1`). -/
def tickCycle : CycleIn := ⟨false, true, false, 0#32⟩

/-- The cycle with neither tick nor command (R61, `IDLE 1`). -/
def idleCycle : CycleIn := ⟨false, false, false, 0#32⟩

/-- The cycle with `rst = 1` (R61, `RESET`). -/
def resetCycle : CycleIn := ⟨true, false, false, 0#32⟩

/-- The pins of this cycle: the first listed, or, none being listed, the outside world's free choice (log entry 2). -/
def State.pins (s : State) : CycleIn :=
  match s.inputs with
  | p :: _ => p
  | [] => Config.freePins s.cycle

/-- The pins of this cycle are taken and the cycle number advances. -/
def State.takePins (s : State) : State := { s with inputs := s.inputs.tail, cycle := s.cycle + 1 }

/-- The command of a listing placed in the very next cycle, without a tick. -/
def State.presentCommand (s : State) (w : CmdWord) : State := { s with inputs := commandCycle w :: s.inputs }

/-- `if tick_en = 1 then Tick()` (R134). -/
def tickPhase (p : CycleIn) (s : State) : Host.Outcome State Fault Refusal :=
  if p.tickEn then exec .tick s else .next s

/-- `if CMF = 1 and ARMED = 1 then Dispatch()` (R134). -/
def dispatchPhase (s : State) : Host.Outcome State Fault Refusal :=
  if s.dispatchEnabled then exec .dispatch s else .next s

/-- `if cmd_valid = 1 then Exec(cmd_word)` (R134, R58). -/
def commandPhase (p : CycleIn) (s : State) : Host.Outcome State Fault Refusal :=
  if p.cmdValid then exec (decode p.cmdWord) s else .next s

/-- `Cycle(rst, tick_en, cmd_valid, cmd_word)` (R134). The one-cycle outputs of the cycle before fall first (R49,
R50). An ill-formed configuration is refused (R8). -/
def cycle (p : CycleIn) (s : State) : Host.Outcome State Fault Refusal :=
  if !paramsWellFormed s.params then .refused .illFormedConfiguration
  else if p.rst then exec .reset s
  else andThen (andThen (tickPhase p s.dropStrobes) dispatchPhase) (commandPhase p)

end Sys2Proof.Machine
end

