-- ==== Sys2Proof/Machine/Step.lean ====
section
/-! DEFINITION. One step of the machine is one clock cycle (R134) under the pins that the state lists next. -/

namespace Sys2Proof.Machine

/-- One clock cycle. -/
def step (s : State) : Host.Outcome State Fault Refusal :=
  cycle s.pins s.takePins

/-- `s` with the command of the `nbits` low bits of `w` presented in the very next cycle, without a tick and without
reset, before whatever inputs `s` lists already. -/
def State.withFetchWord (s : State) (nbits w : Nat) : State :=
  s.presentCommand (commandWord nbits w)

end Sys2Proof.Machine
end

