-- ==== Sys2Proof/Machine/Ports.lean ====
section
/-! DEFINITION. What stands on the output ports (R49, R50), the binary code of the cursor (R17), and the pin names of
the listings (R40, R60): views of the state, no state of their own. -/

namespace Sys2Proof.Machine

/-- 32 line bits as a port word: bit `l` is entry `l` (R49). -/
def portWord (v : Vector Bool 32) : BitVec 32 := BitVec.ofFnLE fun l : Fin 32 => v[l]

/-- The port `line_dir` (R49). -/
def State.lineDir (s : State) : BitVec 32 := portWord s.dir

/-- The port `line_out` (R49). -/
def State.lineOut (s : State) : BitVec 32 := portWord s.level

/-- The port `rsp_valid` (R50). -/
def State.rspValid (s : State) : Bool := s.rsp.isSome

/-- The port `rsp_id` (R50): while `rsp_valid` is 0 it is any value (U10, log entry 3). -/
def State.rspId (s : State) : ChannelId :=
  match s.rsp with
  | some id => id
  | none => Config.freeRspId s.cycle

/-- The 4-bit code of `CURSOR`: 0 to 8 are indices, 0xF is `NONE` (R17). -/
def cursorCode : Option ChannelIndex → BitVec 4
  | some i => BitVec.ofNat 4 i.val
  | none => 0xF#4

/-- The line named `P<port><pin>`: `8*port + pin` (R40, R60). -/
def lineOfPin (port : Fin 4) (pin : Fin 8) : Line := ⟨8 * port.val + pin.val, by omega⟩

end Sys2Proof.Machine
end

