-- ==== Sys2Proof/Safety.lean ====
section
/-! DEFINITION. What claims are stated in: the invariants of R28, runs of clock cycles, slot lengths (R106, R132), the
relation "only widths differ", and what a cycle keeps of a slot, a pulse and a frame. -/

namespace Sys2Proof.Machine

/-- The invariants I1 to I7 of R28, at a clock-cycle boundary. -/
structure State.Inv (s : State) : Prop where
  /-- I1. -/
  count_le : s.count.val ≤ Config.capacity
  /-- I2. -/
  armed_iff : s.armed = true ↔ 1 ≤ s.count.val
  /-- I3. -/
  cursor_lt : ∀ i : ChannelIndex, s.cursor = some i → i.val < s.count.val
  /-- I4. -/
  inert : s.armed = false →
    s.cursor = none ∧ s.tcnt = 0#16 ∧ s.cmf = false ∧ s.ocr = BitVec.ofNat 16 s.params.ocrReset ∧
      ∀ l : Line, s.level[l] = false
  /-- I5. -/
  dir_iff : ∀ l : Line, s.dir[l] = true ↔ ∃ i : ChannelIndex, i.val < s.count.val ∧ (s.reg[i]).line = l
  /-- I6. -/
  level_high : ∀ l : Line, s.level[l] = true →
    ∃ i : ChannelIndex, s.cursor = some i ∧ i.val < s.count.val ∧ (s.reg[i]).line = l
  /-- I7. -/
  cmf_clear : s.cmf = false

/-- A well-formed configuration (R8). -/
abbrev State.Configured (s : State) : Prop := paramsWellFormed s.params = true

/-- `n` clock cycles, stopping at the first refusal. -/
def runCycles : Nat → State → Host.Outcome State Fault Refusal
  | 0, s => .next s
  | n + 1, s => andThen (step s) (runCycles n)

/-- `n` transitions of the operation `i`. -/
def repeatExec (i : Instr) : Nat → State → Host.Outcome State Fault Refusal
  | 0, s => .next s
  | n + 1, s => andThen (exec i s) (repeatExec i n)

/-- The transitions of the operations `is`, in order. -/
def execAll : List Instr → State → Host.Outcome State Fault Refusal
  | [], s => .next s
  | i :: is, s => andThen (exec i s) (execAll is)

/-- The bits of a command word that are not reserved, by opcode (R51). -/
def significantBits (op : Fin 16) : CmdWord :=
  if op = 1 then 0xF01F0000#32
  else if op = 2 then 0xF0FFFFFF#32
  else if op = 3 then 0xF01FFFFF#32
  else if op = 4 then 0xF0FF00FF#32
  else if op = 5 then 0xF01F00FF#32
  else 0xF0000000#32

/-- `slot(i)` (R132): the length in ticks of the slot of a channel. -/
def slotTicks (p : Params) (c : Channel) : Nat :=
  if c.width = 0#16 then p.zeroSlotTicks else c.width.toNat

/-- The sum of the slots of the first `n` entries (R106). -/
def State.slotSum (s : State) : Nat → Nat
  | 0 => 0
  | n + 1 => s.slotSum n + (if h : n < 9 then slotTicks s.params s.reg[n] else 0)

/-- The length in ticks of a frame in which every channel has the width it has now (R106). -/
def State.frameLength (s : State) : Nat :=
  let sum := s.slotSum s.count.val
  if sum + s.params.guardTicks < s.params.frameTicks then s.params.frameTicks else sum + s.params.lookaheadTicks

/-- The ticks from the count `t` until the count next reaches `v` by counting: a full wrap when they are equal (R73). -/
def ticksUntil (t v : Ticks) : Nat :=
  if t.toNat < v.toNat then v.toNat - t.toNat else 2 ^ 16 - (t.toNat - v.toNat)

/-- An armed timer with the cursor `c` has `left` ticks to go to the threshold `v`. -/
structure State.Awaits (s : State) (c : Option ChannelIndex) (v : Ticks) (left : Nat) : Prop where
  armed : s.armed = true
  cursor_eq : s.cursor = c
  ocr_eq : s.ocr = v
  left_eq : ticksUntil s.tcnt v = left

/-- The pulse of channel `i` is open on the line `line`, the only line high, with `left` ticks to go (R104). -/
structure State.OpenPulse (s : State) (i : ChannelIndex) (line : Line) (left : Nat) : Prop where
  awaits : s.Awaits (some i) s.ocr left
  on_line : (s.reg[i]).line = line
  high_iff : ∀ l : Line, s.level[l] = true ↔ l = line

/-- The count at which the slot of the cursor, or the frame tail, begins when no threshold wraps: the sum of the slots
served before. -/
def State.slotBegin (s : State) : Nat :=
  match s.cursor with
  | some i => s.slotSum i.val
  | none => s.slotSum s.count.val

/-- The count at which the slot of the cursor ends, or, in the frame tail, at which the frame ends (R106). -/
def State.slotEnd (s : State) : Nat :=
  match s.cursor with
  | some i => s.slotSum (i.val + 1)
  | none => s.frameLength

/-- The frame runs to schedule (R106): no threshold wraps, the count lies within the slot of the cursor, the threshold
is that slot's end, and the line of an open pulse, and no other, is high. -/
structure State.OnSchedule (s : State) : Prop where
  armed : s.armed = true
  no_wrap : s.slotSum s.count.val + s.params.lookaheadTicks < 2 ^ 16
  begin_le : s.slotBegin ≤ s.tcnt.toNat
  lt_end : s.tcnt.toNat < s.slotEnd
  ocr_eq : s.ocr.toNat = s.slotEnd
  high_iff : ∀ l : Line, s.level[l] = true ↔
    ∃ i : ChannelIndex, s.cursor = some i ∧ (s.reg[i]).line = l ∧ (s.reg[i]).width ≠ 0#16

/-- The two states agree on every element but the widths of the registry (R29, the columns of the width commands). -/
def State.SameButWidths (s t : State) : Prop :=
  t = { s with reg := t.reg } ∧ ∀ j : ChannelIndex, (t.reg[j]).line = (s.reg[j]).line

end Sys2Proof.Machine
end

