-- ==== Sys2Proof/Certificates/Slice0/Obligations.lean ====
section
/-! DEFINITION. The statements for the provers. Each docstring names the rule of the spec it formalises. -/

open Sys2Proof Sys2Proof.Machine

/-! ### Reset and configuration -/

/-- R32: the reset value of every state element, with the default parameters. -/
def Obligations.ResetStateHoldsResetValues : Prop :=
  State.reset.count.val = 0 ∧ State.reset.cursor = none ∧ cursorCode State.reset.cursor = 0xF#4 ∧
  State.reset.armed = false ∧
  (∀ i : ChannelIndex, State.reset.reg[i] = ⟨0, 0#16⟩) ∧ State.reset.tcnt = 0#16 ∧
  State.reset.ocr.toNat = State.reset.params.ocrReset ∧
  State.reset.params.ocrReset = State.reset.params.frameTicks ∧ State.reset.cmf = false ∧
  (∀ l : Line, State.reset.dir[l] = false) ∧ (∀ l : Line, State.reset.level[l] = false) ∧
  State.reset.rspValid = false

/-- R129: in a cycle with `rst = 1` every state element takes its reset value and the other pins are ignored. The
model's own fields (configuration, coming inputs, cycle number) are no state of the block and do not reset. -/
def Obligations.ResetClearsEveryElement : Prop :=
  ∀ (s : State), s.Configured →
    (∃ t, exec .reset s = .next t ∧ t.count.val = 0 ∧ t.cursor = none ∧ t.armed = false ∧
      (∀ i : ChannelIndex, t.reg[i] = ⟨0, 0#16⟩) ∧ t.tcnt = 0#16 ∧ t.ocr.toNat = s.params.ocrReset ∧
      t.cmf = false ∧ (∀ l : Line, t.dir[l] = false) ∧ (∀ l : Line, t.level[l] = false) ∧
      t.rsp = none ∧ t.cmStrobe = false ∧
      t.params = s.params ∧ t.inputs = s.inputs ∧ t.cycle = s.cycle) ∧
    ∀ (p : CycleIn) (rest : List CycleIn), s.inputs = p :: rest → p.rst = true →
      step s = exec .reset { s with inputs := rest, cycle := s.cycle + 1 }

/-- R8: a configuration is well-formed exactly when every constraint of R7 holds, and one that is not is given no
meaning. -/
def Obligations.IllFormedConfigurationIsRefused : Prop :=
  (∀ p : Params, paramsWellFormed p = true ↔
    1 ≤ p.tickHz ∧ p.guardTicks < p.frameTicks ∧ p.frameTicks < 2 ^ 16 ∧
    (p.minPulseUs + 1000) * p.tickHz / 1000000 < 2 ^ 16 ∧
    1 ≤ p.lookaheadTicks ∧ 1 ≤ p.zeroSlotTicks ∧ p.ocrReset < 2 ^ 16) ∧
  ∀ s : State, ¬ s.Configured →
    step s = .refused .illFormedConfiguration ∧ ∀ i : Instr, exec i s = .refused .illFormedConfiguration

/-- R111: every operation, and every clock cycle under any input pins, answers a next state in a well-formed
configuration. -/
def Obligations.EveryTransitionCompletes : Prop :=
  ∀ s : State, s.Configured → (∀ i : Instr, ∃ t, exec i s = .next t) ∧ ∃ t, step s = .next t

/-- The configuration is "fixed for a run" (10_state.md, What is not state): no operation and no cycle changes it. -/
def Obligations.ConfigurationNeverChanges : Prop :=
  ∀ s t : State, ((∃ i : Instr, exec i s = .next t) ∨ step s = .next t) → t.params = s.params

/-! ### Registration -/

/-- R75, R76: `REGISTER line`, every element after it, with room and without. -/
def Obligations.RegisterAppendsAndResponds : Prop :=
  ∀ (s : State) (line : Line), s.Configured →
    (s.count.val < 9 → ∃ t, exec (.register line) s = .next t ∧
      t.count.val = s.count.val + 1 ∧ t.rsp = some (BitVec.ofNat 8 s.count.val) ∧
      (∀ j : ChannelIndex, t.reg[j] = if j.val = s.count.val then ⟨line, 0#16⟩ else s.reg[j]) ∧
      (∀ l : Line, t.dir[l] = if l = line then true else s.dir[l]) ∧
      (∀ l : Line, t.level[l] = if l = line then false else s.level[l]) ∧
      t.armed = (if s.count.val = 0 then true else s.armed) ∧
      t.tcnt = (if s.count.val = 0 then 0#16 else s.tcnt) ∧
      t.cmf = (if s.count.val = 0 then false else s.cmf) ∧
      t.ocr = s.ocr ∧ t.cursor = s.cursor ∧ t.cmStrobe = s.cmStrobe ∧
      t.params = s.params ∧ t.inputs = s.inputs ∧ t.cycle = s.cycle) ∧
    (s.count.val = 9 → exec (.register line) s = .next { s with rsp := some 0xFF#8 })

/-- R77: the first successful registration arms; a later one touches neither `ARMED`, `TCNT`, `OCR` nor `CMF`; none
writes `OCR` or `CURSOR`. After arming, a tick counts. -/
def Obligations.FirstRegistrationArms : Prop :=
  ∀ (s : State) (line : Line), s.Configured → ∃ t, exec (.register line) s = .next t ∧
    t.ocr = s.ocr ∧ t.cursor = s.cursor ∧
    (s.count.val = 0 → t.armed = true ∧ t.tcnt = 0#16 ∧ t.cmf = false ∧
      ∃ u, exec .tick t = .next u ∧ u.tcnt = 1#16) ∧
    (1 ≤ s.count.val → t.armed = s.armed ∧ t.tcnt = s.tcnt ∧ t.cmf = s.cmf)

/-- "the k-th successful REGISTER since reset (k = 1..9) responds k - 1", and every later one fails (41_registration.md,
Identifier properties, which the spec derives from its registration rules). -/
def Obligations.IdentifiersCountUpFromZero : Prop :=
  ∀ (lines : List Line) (line : Line) (s : State), s.Configured → s.count.val = 0 →
    ∃ t u, execAll (lines.map Instr.register) s = .next t ∧ exec (.register line) t = .next u ∧
      t.count.val = min lines.length 9 ∧
      u.rsp = some (if lines.length < 9 then BitVec.ofNat 8 lines.length else 0xFF#8) ∧
      ∀ j : ChannelIndex, j.val < t.count.val → lines[j.val]? = some (t.reg[j]).line

/-- R33: only reset decreases `COUNT`, clears `ARMED`, clears a `DIR` bit or changes the line of a valid entry. -/
def Obligations.OnlyResetUndoesRegistration : Prop :=
  ∀ (i : Instr) (s t : State), i ≠ .reset → exec i s = .next t →
    s.count.val ≤ t.count.val ∧ (s.armed = true → t.armed = true) ∧
    (∀ l : Line, s.dir[l] = true → t.dir[l] = true) ∧
    (∀ j : ChannelIndex, j.val < s.count.val → (t.reg[j]).line = (s.reg[j]).line)

/-! ### Widths and angles -/

/-- R80, R81: `SETPULSE.ID` writes the one width, and an identifier at or above `COUNT` changes nothing. -/
def Obligations.SetPulseByIdWritesOneWidth : Prop :=
  ∀ (s : State) (id : ChannelId) (ticks : Ticks), s.Configured →
    (id.toNat < s.count.val → ∃ t, exec (.setpulseId id ticks) s = .next t ∧ s.SameButWidths t ∧
      ∀ j : ChannelIndex, (t.reg[j]).width = if j.val = id.toNat then ticks else (s.reg[j]).width) ∧
    (s.count.val ≤ id.toNat → exec (.setpulseId id ticks) s = .next s)

/-- R82: `SETPULSE.LINE` writes the width of every valid entry on the line and of no other; no match, no change. -/
def Obligations.SetPulseByLineWritesEveryMatch : Prop :=
  ∀ (s : State) (line : Line) (ticks : Ticks), s.Configured →
    (∃ t, exec (.setpulseLine line ticks) s = .next t ∧ s.SameButWidths t ∧
      ∀ j : ChannelIndex, (t.reg[j]).width =
        if j.val < s.count.val ∧ (s.reg[j]).line = line then ticks else (s.reg[j]).width) ∧
    ((∀ j : ChannelIndex, j.val < s.count.val → (s.reg[j]).line ≠ line) →
      exec (.setpulseLine line ticks) s = .next s)

/-- R90 with R87 and R88: an accepted angle stores exactly `floor((MIN_PULSE_US + floor(deg * 1000 / 180)) * TICK_HZ /
1 000 000)`, not truncated, in the width of channel `id`; otherwise nothing changes. -/
def Obligations.SetAngleByIdStoresConvertedWidth : Prop :=
  ∀ (s : State) (id : ChannelId) (deg : Degrees), s.Configured →
    (deg.toNat ≤ 180 → id.toNat < s.count.val → ∃ t, exec (.setangleId id deg) s = .next t ∧ s.SameButWidths t ∧
      ∀ j : ChannelIndex, (t.reg[j]).width.toNat =
        if j.val = id.toNat then (s.params.minPulseUs + deg.toNat * 1000 / 180) * s.params.tickHz / 1000000
        else (s.reg[j]).width.toNat) ∧
    (180 < deg.toNat ∨ s.count.val ≤ id.toNat → exec (.setangleId id deg) s = .next s)

/-- R91 with R87 and R88: as `SetAngleByIdStoresConvertedWidth`, for every valid entry on the line. -/
def Obligations.SetAngleByLineStoresConvertedWidth : Prop :=
  ∀ (s : State) (line : Line) (deg : Degrees), s.Configured →
    (deg.toNat ≤ 180 → ∃ t, exec (.setangleLine line deg) s = .next t ∧ s.SameButWidths t ∧
      ∀ j : ChannelIndex, (t.reg[j]).width.toNat =
        if j.val < s.count.val ∧ (s.reg[j]).line = line then
          (s.params.minPulseUs + deg.toNat * 1000 / 180) * s.params.tickHz / 1000000
        else (s.reg[j]).width.toNat) ∧
    (180 < deg.toNat → exec (.setangleLine line deg) s = .next s)

/-- R92: an angle above 180 is rejected by both commands: nothing changes and nothing is signalled. -/
def Obligations.AnglesAboveRangeAreRejected : Prop :=
  ∀ (s : State) (id : ChannelId) (line : Line) (deg : Degrees), s.Configured → 180 < deg.toNat →
    exec (.setangleId id deg) s = .next s ∧ exec (.setangleLine line deg) s = .next s

/-- R89: the conversion is monotonic, lies between its end values, and is not always strictly increasing (the spec's
own examples at 100 kHz and 250 kHz). -/
def Obligations.AngleConversionIsMonotonic : Prop :=
  (∀ (p : Params) (a b : Nat), a < b → b ≤ 180 → ticksOfAngle p a ≤ ticksOfAngle p b) ∧
  (∀ (p : Params) (a : Nat), a ≤ 180 →
    ticksOfUs p p.minPulseUs ≤ ticksOfAngle p a ∧ ticksOfAngle p a ≤ ticksOfUs p (p.minPulseUs + 1000)) ∧
  (∀ (p : Params) (a : Nat), a ≤ 180 → ticksOfAngle p a = ticksOfUs p (pulseUsOfAngle p a)) ∧
  [0, 1, 2].map (ticksOfAngle { tickHz := 100000 }) = [100, 100, 101] ∧
  [3, 4, 7, 8].map (ticksOfAngle { tickHz := 250000 }) = [254, 255, 259, 261]

/-- A width command never touches the pulse in progress: whatever it writes, `OCR`, `TCNT`, `CURSOR`, `LEVEL` and
everything else but widths of valid entries stay (44_scheduler_step.md, Width writes while the sequencer runs, which
the spec derives). -/
def Obligations.WidthCommandsKeepThePulseInProgress : Prop :=
  ∀ (s t : State) (id : ChannelId) (line : Line) (ticks : Ticks) (deg : Degrees),
    (exec (.setpulseId id ticks) s = .next t ∨ exec (.setpulseLine line ticks) s = .next t ∨
      exec (.setangleId id deg) s = .next t ∨ exec (.setangleLine line deg) s = .next t) →
    s.SameButWidths t ∧ ∀ j : ChannelIndex, s.count.val ≤ j.val → t.reg[j] = s.reg[j]

/-! ### Encoding -/

/-- R55: a word with opcode 0x0 or 0x6 to 0xF is ignored, as an operation and in its cycle; so is each reserved row. -/
def Obligations.ReservedOpcodesAreIgnored : Prop :=
  ∀ s : State, s.Configured →
    (∀ i ∈ [Instr.reserved0, .reserved6, .reserved7, .reserved8, .reserved9, .reservedA, .reservedB, .reservedC,
      .reservedD, .reservedE, .reservedF], exec i s = .next s) ∧
    (∀ w : CmdWord, w.extractLsb' 28 4 = 0x0#4 ∨ 0x6#4 ≤ w.extractLsb' 28 4 → exec (decode w) s = .next s) ∧
    (∀ (w : CmdWord) (rest : List CycleIn), w.extractLsb' 28 4 = 0x0#4 ∨ 0x6#4 ≤ w.extractLsb' 28 4 →
      s.inputs = commandCycle w :: rest → s.cmf = false →
      step s = .next { s with rsp := none, cmStrobe := false, inputs := rest, cycle := s.cycle + 1 })

/-- R53, R52: `(w & mask) = match` selects each command, and its operands are the contiguous unsigned fields. -/
def Obligations.DecodeSelectsByMaskAndMatch : Prop :=
  ∀ w : CmdWord,
    (w &&& 0xF0000000#32 = 0x10000000#32 → decode w = .register (w.extractLsb' 16 5).toFin) ∧
    (w &&& 0xF0000000#32 = 0x20000000#32 → decode w = .setpulseId (w.extractLsb' 16 8) (w.extractLsb' 0 16)) ∧
    (w &&& 0xF0000000#32 = 0x30000000#32 → decode w = .setpulseLine (w.extractLsb' 16 5).toFin (w.extractLsb' 0 16)) ∧
    (w &&& 0xF0000000#32 = 0x40000000#32 → decode w = .setangleId (w.extractLsb' 16 8) (w.extractLsb' 0 8)) ∧
    (w &&& 0xF0000000#32 = 0x50000000#32 → decode w = .setangleLine (w.extractLsb' 16 5).toFin (w.extractLsb' 0 8))

/-- R56: two words of one format that differ only in reserved bits are the same command, and the encoder writes
reserved bits as 0. -/
def Obligations.ReservedBitsHaveNoEffect : Prop :=
  (∀ w v : CmdWord, w &&& significantBits (opField w) = v &&& significantBits (opField w) → decode w = decode v) ∧
  (∀ (i : Instr) (w : CmdWord), encode i = some w → w &&& ~~~ significantBits (opField w) = 0#32)

/-- Decoding the word of any operation that has one gives the operation back, with every operand at every value; the
events and micro-operations have no word (R54, R58). -/
def Obligations.DecodeInvertsEncode : Prop :=
  (∀ i : Instr, i.wellFormed = true → ∃ w, encode i = some w ∧ decode w = i) ∧
  (∀ i : Instr, i.wellFormed = false → encode i = none)

/-- Encoding what any word decodes to gives the word back with its reserved bits cleared; in particular the decoder
answers only operations that have a word. -/
def Obligations.EncodeInvertsDecodeUpToReservedBits : Prop :=
  ∀ w : CmdWord, (decode w).wellFormed = true ∧ encode (decode w) = some (w &&& significantBits (opField w))

/-- Words of the spec's table V-ENC, written out, decode to the commands it names. -/
def Obligations.SampleWordsDecode : Prop :=
  decode 0x10050000#32 = .register 5 ∧ decode 0x1FE5FFFF#32 = .register 5 ∧
  decode 0x200100C8#32 = .setpulseId 1 200 ∧ decode 0x2F02FFFF#32 = .setpulseId 2 65535 ∧
  decode 0x30E505DC#32 = .setpulseLine 5 1500 ∧ decode 0x4002FF5A#32 = .setangleId 2 90 ∧
  decode 0x500C00B4#32 = .setangleLine 12 180 ∧ decode 0x00000000#32 = .reserved0 ∧
  decode 0xF1234567#32 = .reservedF

/-! ### The timer and the output lines -/

/-- R72: `Tick`, armed and not armed; the rest of the state stays. -/
def Obligations.TickCountsAndMatches : Prop :=
  ∀ s : State, s.Configured →
    (s.armed = true → exec .tick s =
      .next { s with
        tcnt := s.tcnt + 1#16
        cmf := if s.tcnt + 1#16 = s.ocr then true else s.cmf }) ∧
    (s.armed = false → exec .tick s = .next s)

/-- R66: `GetCount` returns `TCNT`, 0 right after `SetCount(0)`, and changes nothing. -/
def Obligations.GetCountReturnsTheCount : Prop :=
  ∀ s : State, s.Configured →
    exec .getCount s = .next s ∧ s.getCount = (s.tcnt, s) ∧
    ∃ t, exec (.setCount 0#16) s = .next t ∧ t.getCount.1 = 0#16

/-- R67, R68: `SetCount` writes `TCNT` only and `ArmCompareMatch` writes `OCR` only; neither sets or clears `CMF`. The
next match after `ArmCompareMatch` is at the first tick whose incremented count equals `OCR`. -/
def Obligations.TimerWritesKeepThePendingFlag : Prop :=
  ∀ (s : State) (ticks : Ticks), s.Configured →
    exec (.setCount ticks) s = .next { s with tcnt := ticks } ∧
    exec (.armCompareMatch ticks) s = .next { s with ocr := ticks } ∧
    (s.armed = true → s.cmf = false → ∃ t u, exec (.armCompareMatch ticks) s = .next t ∧ exec .tick t = .next u ∧
      (u.cmf = true ↔ s.tcnt + 1#16 = ticks))

/-- R69: `OnCompareMatch` sets `ARMED`; while `ARMED = 0` no match is detected and no step is dispatched: a tick changes
nothing, and a clock cycle without reset does what its command does and nothing else. -/
def Obligations.CallbackIsInstalledByArming : Prop :=
  ∀ s : State, s.Configured →
    exec .onCompareMatch s = .next { s with armed := true } ∧
    (s.armed = false → exec .tick s = .next s ∧
      ∀ (p : CycleIn) (rest : List CycleIn), s.inputs = p :: rest → p.rst = false →
        (p.cmdValid = true →
          step s = exec (decode p.cmdWord)
            { s with rsp := none, cmStrobe := false, inputs := rest, cycle := s.cycle + 1 }) ∧
        (p.cmdValid = false →
          step s = .next { s with rsp := none, cmStrobe := false, inputs := rest, cycle := s.cycle + 1 }))

/-- R70, R71: `ConfigureAsOutput` sets one direction bit and no level; `SetLine` writes one level and no direction bit. -/
def Obligations.LineOperationsWriteOneBit : Prop :=
  ∀ (s : State) (line : Line) (level : Bool), s.Configured →
    (∃ t, exec (.configureAsOutput line) s = .next t ∧ t = { s with dir := t.dir } ∧
      (∀ l : Line, t.dir[l] = if l = line then true else s.dir[l]) ∧
      (∀ l : Line, t.lineDir.getLsbD l.val = t.dir[l])) ∧
    (∃ t, exec (.setLine line level) s = .next t ∧ t = { s with level := t.level } ∧
      (∀ l : Line, t.level[l] = if l = line then level else s.level[l]) ∧
      (∀ l : Line, t.lineOut.getLsbD l.val = t.level[l]))

/-- The compare match comes exactly when the count reaches the threshold by counting, after a full wrap when they are
equal: not one tick earlier (40_timer_output_primitives.md, Threshold armed at or behind the count). -/
def Obligations.MatchComesAfterTicksUntil : Prop :=
  ∀ s : State, s.Configured → s.armed = true → s.cmf = false →
    (∀ n, n < ticksUntil s.tcnt s.ocr →
      repeatExec .tick n s = .next { s with tcnt := s.tcnt + BitVec.ofNat 16 n }) ∧
    repeatExec .tick (ticksUntil s.tcnt s.ocr) s = .next { s with tcnt := s.ocr, cmf := true }

/-! ### The dispatcher and the step -/

/-- R94: an enabled `Dispatch` clears `CMF`, raises `cm_strobe` for the next cycle and runs one `Step`. -/
def Obligations.DispatchRunsOneStep : Prop :=
  ∀ s : State, s.Configured → s.cmf = true → s.armed = true →
    ∃ t, exec .dispatch s = .next t ∧ exec .step { s with cmf := false, cmStrobe := true } = .next t ∧
      t.cmf = false ∧ t.cmStrobe = true

/-- The model's choice, log entry 5: where `Dispatch` is not enabled (44_scheduler_step.md, Dispatch: "Enabled exactly
when"), the event does not happen and the state stays. -/
def Obligations.DispatchNotEnabledChangesNothing : Prop :=
  ∀ s : State, s.Configured → (s.cmf = false ∨ s.armed = false) → exec .dispatch s = .next s

/-- R98: with `CURSOR = NONE` and a registered channel, a step zeroes the count and opens slot 0, never the tail; no
line rises but that of channel 0. -/
def Obligations.StepStartsFrame : Prop :=
  ∀ s : State, s.Configured → s.cursor = none → 1 ≤ s.count.val →
    ∃ t, exec .step s = .next t ∧ t.tcnt = 0#16 ∧ t.cursor = some 0 ∧
      ((s.reg[(0 : ChannelIndex)]).width ≠ 0#16 → t.level[(s.reg[(0 : ChannelIndex)]).line] = true) ∧
      ∀ l : Line, l ≠ (s.reg[(0 : ChannelIndex)]).line → t.level[l] = s.level[l]

/-- R99, R100: with a registered channel `j` next, at a frame start (`j = 0`) or after channel `i` (`j = i + 1`), a step
opens its slot from the count that phase A leaves: a pulse of its width, or, width zero, a skipped slot of
`ZERO_SLOT_TICKS` without a pulse. -/
def Obligations.StepServesNextChannel : Prop :=
  ∀ (s : State) (j : ChannelIndex) (now : Ticks) (closed : Vector Bool 32), s.Configured → j.val < s.count.val →
    (s.cursor = none ∧ j.val = 0 ∧ now = 0#16 ∧ closed = s.level ∨
      ∃ i : ChannelIndex, s.cursor = some i ∧ j.val = i.val + 1 ∧ now = s.tcnt ∧
        closed = s.level.set (s.reg[i]).line false) →
    ((s.reg[j]).width ≠ 0#16 → exec .step s = .next
      { s with
        tcnt := now
        cursor := some j
        ocr := now + (s.reg[j]).width
        level := closed.set (s.reg[j]).line true }) ∧
    ((s.reg[j]).width = 0#16 → exec .step s = .next
      { s with
        tcnt := now
        cursor := some j
        ocr := now + BitVec.ofNat 16 s.params.zeroSlotTicks
        level := closed })

/-- R101, R102: with the last channel open, a step drives its line low and waits out the frame: exactly to the boundary
when the remainder exceeds the guard, else, the overrun included, `LOOKAHEAD_TICKS` on. -/
def Obligations.StepEntersFrameTail : Prop :=
  ∀ (s : State) (i : ChannelIndex), s.Configured → s.cursor = some i → s.count.val ≤ i.val + 1 →
    exec .step s = .next
      { s with
        cursor := none
        ocr := if (s.params.frameTicks : Int) - s.tcnt.toNat > s.params.guardTicks
          then BitVec.ofNat 16 s.params.frameTicks
          else s.tcnt + BitVec.ofNat 16 s.params.lookaheadTicks
        level := s.level.set (s.reg[i]).line false }

/-- R97: a step with channel `i` open drives its line low, whether or not the slot had a pulse, and keeps the count;
the line is high afterwards only if the slot just opened is on that very line with a nonzero width. -/
def Obligations.StepClosesTheOpenSlot : Prop :=
  ∀ (s : State) (i : ChannelIndex), s.Configured → s.cursor = some i →
    ∃ t, exec .step s = .next t ∧ t.tcnt = s.tcnt ∧ t.cursor ≠ some i ∧
      (t.level[(s.reg[i]).line] = true ↔
        ∃ j : ChannelIndex, t.cursor = some j ∧ (s.reg[j]).line = (s.reg[i]).line ∧ (s.reg[j]).width ≠ 0#16)

/-- The pseudocode of `Step` in the one case no run reaches (44_scheduler_step.md, Step; "Since ARMED = 1 implies COUNT
>= 1" such a step never happens): an empty registry goes from the frame start straight to the tail. -/
def Obligations.StepWithEmptyRegistry : Prop :=
  ∀ s : State, s.Configured → s.cursor = none → s.count.val = 0 →
    exec .step s = .next { s with tcnt := 0#16, ocr := BitVec.ofNat 16 s.params.frameTicks }

/-- Every step arms strictly ahead of the count it leaves, whatever branch it takes (44_scheduler_step.md, Consequences,
which the spec derives). -/
def Obligations.StepArmsStrictlyAhead : Prop :=
  ∀ s t : State, exec .step s = .next t →
    ∃ d : Nat, 1 ≤ d ∧ t.ocr = t.tcnt + BitVec.ofNat 16 d ∧
      (t.tcnt.toNat + d < 2 ^ 16 → t.tcnt.toNat < t.ocr.toNat) ∧
      ((∃ i : ChannelIndex, t.cursor = some i ∧ d = slotTicks s.params (s.reg[i])) ∨
        (t.cursor = none ∧ ((d : Int) = s.params.frameTicks - t.tcnt.toNat ∨ d = s.params.lookaheadTicks)))

/-- The interrupt context and the timer write neither the registry nor `COUNT` nor `DIR`, and clear no `ARMED`
(10_state.md, Access matrix). -/
def Obligations.SchedulerNeverWritesTheRegistry : Prop :=
  ∀ (s t : State), (exec .tick s = .next t ∨ exec .dispatch s = .next t ∨ exec .step s = .next t) →
    t.reg = s.reg ∧ t.count = s.count ∧ t.dir = s.dir ∧ t.armed = s.armed ∧ t.rsp = s.rsp ∧
    t.inputs = s.inputs ∧ t.cycle = s.cycle

/-! ### Whole-machine rules -/

/-- No command writes `CURSOR` or `OCR`, and none reads `CURSOR`: run with another cursor it does the same (10_state.md,
Scheduler cursor, "no command reads or writes it"). -/
def Obligations.CommandsNeitherReadNorWriteTheCursor : Prop :=
  ∀ (i : Instr) (s t : State) (c : Option ChannelIndex), i.wellFormed = true → exec i s = .next t →
    t.cursor = s.cursor ∧ t.ocr = s.ocr ∧ t.cmStrobe = s.cmStrobe ∧
    exec i { s with cursor := c } = .next { t with cursor := c }

/-- No transition reads `DIR` or `LEVEL`: run from other line bits, every operation gives the same rest of the state and
writes the same line bits with the same values, each bit either as in the first run or kept in both runs (10_state.md,
Access matrix, "No transition reads `DIR` or `LEVEL`"). -/
def Obligations.DirAndLevelAreNeverRead : Prop :=
  ∀ (i : Instr) (s t : State) (d v : Vector Bool 32), exec i s = .next t →
    ∃ d' v', exec i { s with dir := d, level := v } = .next { t with dir := d', level := v' } ∧
      ∀ l : Line, (d'[l] = t.dir[l] ∨ d'[l] = d[l] ∧ t.dir[l] = s.dir[l]) ∧
        (v'[l] = t.level[l] ∨ v'[l] = v[l] ∧ t.level[l] = s.level[l])

/-! ### The clock cycle -/

/-- When the next pins present the word of a well-formed operation `i`, alone in its cycle, and no match is pending, a
step is `exec i`, after the one-cycle outputs have fallen and the pins have been taken; `withFetchWord` places exactly
such a cycle. -/
def Obligations.StepRunsTheDecodedCommand : Prop :=
  ∀ (s : State) (i : Instr) (w : CmdWord), s.Configured → s.cmf = false → encode i = some w →
    (∀ (p : CycleIn) (rest : List CycleIn), s.inputs = p :: rest → p.rst = false → p.tickEn = false →
      p.cmdValid = true → p.cmdWord = w →
      step s = exec i { s with rsp := none, cmStrobe := false, inputs := rest, cycle := s.cycle + 1 }) ∧
    step (s.withFetchWord 32 w.toNat) = exec i { s with rsp := none, cmStrobe := false, cycle := s.cycle + 1 }

/-- R134: one clock cycle performs, in this order, reset, or else at most one tick, the dispatch it enables, and at
most one command. -/
def Obligations.CycleOrdersTickDispatchExec : Prop :=
  ∀ (s : State) (p : CycleIn) (rest : List CycleIn), s.Configured → s.inputs = p :: rest →
    (p.rst = true → step s = exec .reset { s with inputs := rest, cycle := s.cycle + 1 }) ∧
    (p.rst = false → ∃ s1 s2 s3,
      (if p.tickEn = true
        then exec .tick { s with rsp := none, cmStrobe := false, inputs := rest, cycle := s.cycle + 1 } = .next s1
        else s1 = { s with rsp := none, cmStrobe := false, inputs := rest, cycle := s.cycle + 1 }) ∧
      (if s1.cmf = true ∧ s1.armed = true then exec .dispatch s1 = .next s2 else s2 = s1) ∧
      (if p.cmdValid = true then exec (decode p.cmdWord) s2 = .next s3 else s3 = s2) ∧
      step s = .next s3)

/-- "A cycle with tick_en = 0 and cmd_valid = 0 changes nothing" (70_reset_and_hazards.md, Ordering inside a clock
cycle, consequence e), but that the one-cycle outputs fall; at a cycle boundary no match is pending. -/
def Obligations.IdleCycleChangesNothing : Prop :=
  ∀ (s : State) (p : CycleIn) (rest : List CycleIn), s.Configured → s.cmf = false → s.inputs = p :: rest →
    p.rst = false → p.tickEn = false → p.cmdValid = false →
    step s = .next { s with rsp := none, cmStrobe := false, inputs := rest, cycle := s.cycle + 1 }

/-- R50: after a cycle that executed a `REGISTER`, `rsp_valid` is 1 and `rsp_id` is its result, the identifier or 0xFF;
after every other cycle `rsp_valid` is 0, whatever the pins, the unlisted ones included. -/
def Obligations.OnlyRegisterResponds : Prop :=
  ∀ s t : State, step s = .next t →
    (∀ l, s.pins.rst = false → s.pins.cmdValid = true → decode s.pins.cmdWord = .register l →
      t.rspValid = true ∧ t.rspId = if s.count.val < 9 then BitVec.ofNat 8 s.count.val else 0xFF#8) ∧
    ((s.pins.rst = true ∨ s.pins.cmdValid = false ∨ ∀ l, decode s.pins.cmdWord ≠ .register l) → t.rspValid = false)

/-- `cm_strobe` is "1 for the one cycle after a Dispatch ran" (30_encoding.md, Ports): exactly when the cycle's tick
reached the threshold of an armed timer, or a match was pending already. -/
def Obligations.StrobeFollowsDispatch : Prop :=
  ∀ s t : State, step s = .next t →
    (t.cmStrobe = true ↔
      s.pins.rst = false ∧ s.armed = true ∧
        (s.cmf = true ∨ (s.pins.tickEn = true ∧ s.tcnt + 1#16 = s.ocr)))

/-- A `REGISTER` of a line in the same cycle as a step that drives it high leaves it low: the command comes last
(40_timer_output_primitives.md, Output arbiter, clause b). -/
def Obligations.RegisterAfterStepLeavesTheLineLow : Prop :=
  ∀ (s : State) (p : CycleIn) (rest : List CycleIn) (l : Line), s.Configured → s.count.val < 9 →
    s.inputs = p :: rest → p.rst = false → p.cmdValid = true → decode p.cmdWord = .register l →
    ∃ t, step s = .next t ∧ t.level[l] = false ∧ t.dir[l] = true ∧ t.count.val = s.count.val + 1

/-- Before any registration the block is inert: no cycle without `rst` and without a `REGISTER` changes anything, ticks
and other commands included (70_reset_and_hazards.md, Reset, which the spec derives). -/
def Obligations.InertBeforeRegistration : Prop :=
  ∀ (s : State) (p : CycleIn) (rest : List CycleIn), s.Configured → s.Inv → s.count.val = 0 →
    s.inputs = p :: rest → p.rst = false → (p.cmdValid = true → ∀ l, decode p.cmdWord ≠ .register l) →
    step s = .next { s with rsp := none, cmStrobe := false, inputs := rest, cycle := s.cycle + 1 }

/-! ### Invariants -/

/-- The reset state meets the invariants I1 to I7 and its configuration is well-formed. -/
def Obligations.ResetMeetsInvariants : Prop :=
  State.reset.Inv ∧ State.reset.Configured

/-- The invariants I1 to I7 of 10_state.md (Invariants, which the spec derives): every clock cycle keeps them, whatever
the input pins. -/
def Obligations.EveryCycleKeepsInvariants : Prop :=
  ∀ s t : State, s.Inv → step s = .next t → t.Inv

/-- "lines never overlap high" (10_state.md, Invariants, I6): after any number of cycles from a state that meets the
invariants, under any pins, at most one line is high, and it is one configured as an output. -/
def Obligations.AtMostOneLineIsEverHigh : Prop :=
  ∀ (n : Nat) (s t : State) (l m : Line), s.Inv → runCycles n s = .next t →
    t.level[l] = true → t.level[m] = true → l = m ∧ t.dir[l] = true

/-! ### Pulses and frames -/

/-- The next step of an armed block comes exactly with the tick that brings the count to the threshold, whatever
commands are executed on the way and however ticks and commands are spread over the cycles: until then `CURSOR` and
`OCR` stay, the count is the number of ticks on, and no line rises (70_reset_and_hazards.md, Forward progress, and Registration while
running; the spec derives both). -/
def Obligations.NextStepComesExactlyWhenArmed : Prop :=
  ∀ (s : State) (ps rest : List CycleIn), s.Configured → s.Inv → s.armed = true → s.inputs = ps ++ rest →
    (∀ p ∈ ps, p.rst = false) → ps.countP (·.tickEn) < ticksUntil s.tcnt s.ocr →
    ∃ t, runCycles ps.length s = .next t ∧ t.inputs = rest ∧
      t.tcnt = s.tcnt + BitVec.ofNat 16 (ps.countP (·.tickEn)) ∧
      t.cursor = s.cursor ∧ t.ocr = s.ocr ∧ t.armed = true ∧ t.cmf = false ∧
      (ps ≠ [] → t.cmStrobe = false) ∧
      (∀ l : Line, s.level[l] = false → t.level[l] = false) ∧
      (∀ p, rest.head? = some p → p.rst = false → p.tickEn = true →
        ps.countP (·.tickEn) + 1 = ticksUntil s.tcnt s.ocr → ∃ u, step t = .next u ∧ u.cmStrobe = true)

/-- The pulse is exactly as wide as the stored width: from the step that opens the slot of a channel with nonzero width
`w`, its line stays high through every cycle before the `w`-th tick, other lines stay low, and the `w`-th tick's step
closes the slot, whatever command its cycle carries (44_scheduler_step.md, Consequences, Pulse shape, which the spec
derives). No `REGISTER` of that line is executed in these cycles: it would drive the line low (R78, R74 b). -/
def Obligations.PulseIsExactlyAsWideAsStored : Prop :=
  ∀ (s t : State) (i : ChannelIndex) (ps rest : List CycleIn) (p : CycleIn), s.Inv → s.armed = true →
    exec .step s = .next t → t.cursor = some i → (t.reg[i]).width ≠ 0#16 →
    t.inputs = ps ++ p :: rest →
    (∀ q ∈ ps, q.rst = false ∧ (q.cmdValid = true → decode q.cmdWord ≠ .register (t.reg[i]).line)) →
    (ps.countP (·.tickEn) < (t.reg[i]).width.toNat →
      ∃ u, runCycles ps.length t = .next u ∧ ∀ l : Line, u.level[l] = true ↔ l = (t.reg[i]).line) ∧
    (ps.countP (·.tickEn) + 1 = (t.reg[i]).width.toNat → p.rst = false → p.tickEn = true →
      (p.cmdValid = true → decode p.cmdWord ≠ .register (t.reg[i]).line) →
      ∃ u v, runCycles ps.length t = .next u ∧ step u = .next v ∧ v.cmStrobe = true ∧
        v.cursor = (if h : i.val + 1 < u.count.val then some ⟨i.val + 1, by have := u.count.isLt; omega⟩ else none) ∧
        (v.level[(t.reg[i]).line] = true ↔
          ∃ j : ChannelIndex, v.cursor = some j ∧ (u.reg[j]).line = (t.reg[i]).line ∧ (u.reg[j]).width ≠ 0#16))

/-- R133: the first step after arming is a frame start and comes with the `OCR_RESET`-th tick (the `2^16`-th if
`OCR_RESET = 0`), whatever commands are executed in between and in that very cycle. -/
def Obligations.FirstStepComesAfterOcrResetTicks : Prop :=
  ∀ (s : State) (line : Line) (w : CmdWord) (tick : Bool) (ps rest : List CycleIn) (p : CycleIn), s.Configured →
    s.Inv → s.count.val = 0 → decode w = .register line →
    s.inputs = ⟨false, tick, true, w⟩ :: (ps ++ p :: rest) → (∀ q ∈ ps, q.rst = false) →
    p.rst = false → p.tickEn = true →
    ps.countP (·.tickEn) + 1 = (if s.params.ocrReset = 0 then 2 ^ 16 else s.params.ocrReset) →
    (∀ k, k ≤ ps.length → ∃ t, runCycles (k + 1) s = .next t ∧ t.cursor = none ∧ t.cmStrobe = false ∧
      t.ocr = BitVec.ofNat 16 s.params.ocrReset ∧
      t.tcnt = BitVec.ofNat 16 ((ps.take k).countP (·.tickEn))) ∧
    ∃ t, runCycles (ps.length + 2) s = .next t ∧ t.cmStrobe = true ∧ t.tcnt = 0#16 ∧ t.cursor = some 0

/-- The frame period: with ticks only, from a frame start the count runs 0, 1, 2, … and is reset to 0, with slot 0 open
again, after exactly `FRAME_TICKS` ticks, or, when the slots leave no more than the guard, `LOOKAHEAD_TICKS` after the
last slot; no threshold wraps (44_scheduler_step.md, Consequences, Frame period, which the spec derives). -/
def Obligations.FramePeriodIsExact : Prop :=
  ∀ (s t : State) (rest : List CycleIn), s.Inv → s.armed = true → s.cursor = none → exec .step s = .next t →
    t.slotSum t.count.val + t.params.lookaheadTicks < 2 ^ 16 →
    t.inputs = List.replicate t.frameLength tickCycle ++ rest →
    (∀ k, k < t.frameLength → ∃ u, runCycles k t = .next u ∧ u.tcnt = BitVec.ofNat 16 k) ∧
    ∃ u, runCycles t.frameLength t = .next u ∧ u.tcnt = 0#16 ∧ u.cursor = some 0 ∧ u.ocr = t.ocr ∧
      u.level = t.level ∧ u.reg = t.reg ∧ u.count = t.count ∧ u.inputs = rest

/-! ### What every single cycle keeps of a slot, a pulse and a frame -/

/-- The step lemma behind the waiting time: a cycle without reset whose tick does not complete the distance to the
threshold runs no step, keeps `CURSOR` and `OCR`, lowers the distance by its tick and raises no line, whatever its
command; the tick that completes the distance runs one (70_reset_and_hazards.md, Forward progress, and Registration
while running; the spec derives both). -/
def Obligations.CycleShortOfTheThresholdRunsNoStep : Prop :=
  ∀ (s t : State) (c : Option ChannelIndex) (v : Ticks) (left : Nat), s.Inv → s.Awaits c v left →
    s.pins.rst = false → step s = .next t →
    (s.pins.tickEn.toNat < left →
      t.Awaits c v (left - s.pins.tickEn.toNat) ∧ t.cmStrobe = false ∧ s.count.val ≤ t.count.val ∧
      (∀ j : ChannelIndex, j.val < s.count.val → (t.reg[j]).line = (s.reg[j]).line) ∧
      ∀ l : Line, s.level[l] = false → t.level[l] = false) ∧
    (s.pins.tickEn.toNat = left → t.cmStrobe = true)

/-- The step lemma behind the pulse width: the step that opens the slot of a channel with nonzero width opens a pulse of
that many ticks, and a cycle without reset and without a `REGISTER` of its line, whose tick is not the last one, keeps
it open (44_scheduler_step.md, Consequences, Pulse shape, which the spec derives). -/
def Obligations.PulseStaysOpenUntilItsLastTick : Prop :=
  ∀ (s t : State) (i : ChannelIndex), s.Inv →
    (s.armed = true → exec .step s = .next t → t.cursor = some i → (t.reg[i]).width ≠ 0#16 →
      t.OpenPulse i (t.reg[i]).line (t.reg[i]).width.toNat) ∧
    ∀ (line : Line) (left : Nat), s.OpenPulse i line left → s.pins.rst = false →
      (s.pins.cmdValid = true → decode s.pins.cmdWord ≠ .register line) → s.pins.tickEn.toNat < left →
      step s = .next t → t.OpenPulse i line (left - s.pins.tickEn.toNat)

/-- The step lemma behind the frame period: a frame start whose thresholds do not wrap is on schedule, and every cycle
that leaves the registry as it is keeps the schedule, with commands or without; its tick moves the count on by one, or,
at the frame length, to 0 (44_scheduler_step.md, Consequences, Frame period, which the spec derives). -/
def Obligations.EveryCycleKeepsTheFrameSchedule : Prop :=
  ∀ s t : State, s.Inv →
    (s.armed = true → s.cursor = none → exec .step s = .next t →
      t.slotSum t.count.val + t.params.lookaheadTicks < 2 ^ 16 → t.OnSchedule ∧ t.tcnt = 0#16) ∧
    (s.OnSchedule → step s = .next t → t.reg = s.reg → t.count = s.count →
      t.OnSchedule ∧ t.frameLength = s.frameLength ∧
      t.tcnt.toNat =
        if s.tcnt.toNat + s.pins.tickEn.toNat = s.frameLength then 0 else s.tcnt.toNat + s.pins.tickEn.toNat)
end

