-- ==== Sys2Proof/Laws/Decode.lean ====
section
/-! SUPPORT. Reading a field of a word that was assembled from fields. -/

namespace Sys2Proof

/-- A field is read back from where it stands. -/
theorem extractLsb'_fieldAt_self {n : Nat} (v : BitVec n) (lo : Nat) (h : lo + n ≤ 32) :
    (fieldAt v lo).extractLsb' lo n = v := by
  apply BitVec.eq_of_getLsbD_eq
  intro i hi
  have : lo + i < 32 := by omega
  simp [fieldAt, hi, this]

/-- Beside a field there are zeros. -/
theorem extractLsb'_fieldAt_disjoint {n : Nat} (v : BitVec n) (lo at' m : Nat)
    (h : lo + n ≤ at' ∨ at' + m ≤ lo) : (fieldAt v lo).extractLsb' at' m = 0#m := by
  apply BitVec.eq_of_getLsbD_eq
  intro i hi
  simp only [fieldAt, BitVec.getLsbD_extractLsb', hi, decide_true, Bool.true_and, BitVec.getLsbD_shiftLeft,
    BitVec.getLsbD_setWidth, BitVec.getLsbD_zero]
  rcases h with h | h
  · rw [BitVec.getLsbD_of_ge v _ (by omega)]
    simp
  · have : at' + i < lo := by omega
    simp [this]

/-- A field of a union of words is the union of the fields. -/
theorem extractLsb'_or (a b : CmdWord) (lo m : Nat) :
    (a ||| b).extractLsb' lo m = a.extractLsb' lo m ||| b.extractLsb' lo m := by
  apply BitVec.eq_of_getLsbD_eq
  intro i hi
  simp [hi]

end Sys2Proof
end

