-- ==== Sys2Proof/Laws/State.lean ====
section
/-! SUPPORT. One lemma per field of State and update of it: what the field is after the update. -/

namespace Sys2Proof.Machine.State

variable (s : State)

/-! ### setPending -/

@[simp] theorem reg_setPending : (s.setPending).reg = s.reg := rfl
@[simp] theorem count_setPending : (s.setPending).count = s.count := rfl
@[simp] theorem cursor_setPending : (s.setPending).cursor = s.cursor := rfl
@[simp] theorem armed_setPending : (s.setPending).armed = s.armed := rfl
@[simp] theorem tcnt_setPending : (s.setPending).tcnt = s.tcnt := rfl
@[simp] theorem ocr_setPending : (s.setPending).ocr = s.ocr := rfl
@[simp] theorem cmf_setPending : (s.setPending).cmf = true := rfl
@[simp] theorem dir_setPending : (s.setPending).dir = s.dir := rfl
@[simp] theorem level_setPending : (s.setPending).level = s.level := rfl
@[simp] theorem rsp_setPending : (s.setPending).rsp = s.rsp := rfl
@[simp] theorem cmStrobe_setPending : (s.setPending).cmStrobe = s.cmStrobe := rfl
@[simp] theorem params_setPending : (s.setPending).params = s.params := rfl
@[simp] theorem inputs_setPending : (s.setPending).inputs = s.inputs := rfl
@[simp] theorem cycle_setPending : (s.setPending).cycle = s.cycle := rfl

/-! ### clearPending -/

@[simp] theorem reg_clearPending : (s.clearPending).reg = s.reg := rfl
@[simp] theorem count_clearPending : (s.clearPending).count = s.count := rfl
@[simp] theorem cursor_clearPending : (s.clearPending).cursor = s.cursor := rfl
@[simp] theorem armed_clearPending : (s.clearPending).armed = s.armed := rfl
@[simp] theorem tcnt_clearPending : (s.clearPending).tcnt = s.tcnt := rfl
@[simp] theorem ocr_clearPending : (s.clearPending).ocr = s.ocr := rfl
@[simp] theorem cmf_clearPending : (s.clearPending).cmf = false := rfl
@[simp] theorem dir_clearPending : (s.clearPending).dir = s.dir := rfl
@[simp] theorem level_clearPending : (s.clearPending).level = s.level := rfl
@[simp] theorem rsp_clearPending : (s.clearPending).rsp = s.rsp := rfl
@[simp] theorem cmStrobe_clearPending : (s.clearPending).cmStrobe = s.cmStrobe := rfl
@[simp] theorem params_clearPending : (s.clearPending).params = s.params := rfl
@[simp] theorem inputs_clearPending : (s.clearPending).inputs = s.inputs := rfl
@[simp] theorem cycle_clearPending : (s.clearPending).cycle = s.cycle := rfl

/-! ### setWidth -/

@[simp] theorem reg_setWidth (i : ChannelIndex) (w : Ticks) : (s.setWidth i w).reg = s.reg.set i { s.chan i with width := w } := rfl
@[simp] theorem count_setWidth (i : ChannelIndex) (w : Ticks) : (s.setWidth i w).count = s.count := rfl
@[simp] theorem cursor_setWidth (i : ChannelIndex) (w : Ticks) : (s.setWidth i w).cursor = s.cursor := rfl
@[simp] theorem armed_setWidth (i : ChannelIndex) (w : Ticks) : (s.setWidth i w).armed = s.armed := rfl
@[simp] theorem tcnt_setWidth (i : ChannelIndex) (w : Ticks) : (s.setWidth i w).tcnt = s.tcnt := rfl
@[simp] theorem ocr_setWidth (i : ChannelIndex) (w : Ticks) : (s.setWidth i w).ocr = s.ocr := rfl
@[simp] theorem cmf_setWidth (i : ChannelIndex) (w : Ticks) : (s.setWidth i w).cmf = s.cmf := rfl
@[simp] theorem dir_setWidth (i : ChannelIndex) (w : Ticks) : (s.setWidth i w).dir = s.dir := rfl
@[simp] theorem level_setWidth (i : ChannelIndex) (w : Ticks) : (s.setWidth i w).level = s.level := rfl
@[simp] theorem rsp_setWidth (i : ChannelIndex) (w : Ticks) : (s.setWidth i w).rsp = s.rsp := rfl
@[simp] theorem cmStrobe_setWidth (i : ChannelIndex) (w : Ticks) : (s.setWidth i w).cmStrobe = s.cmStrobe := rfl
@[simp] theorem params_setWidth (i : ChannelIndex) (w : Ticks) : (s.setWidth i w).params = s.params := rfl
@[simp] theorem inputs_setWidth (i : ChannelIndex) (w : Ticks) : (s.setWidth i w).inputs = s.inputs := rfl
@[simp] theorem cycle_setWidth (i : ChannelIndex) (w : Ticks) : (s.setWidth i w).cycle = s.cycle := rfl

/-! ### appendChannel -/

@[simp] theorem reg_appendChannel (i : ChannelIndex) (l : Line) : (s.appendChannel i l).reg = s.reg.set i ⟨l, 0#16⟩ := rfl
@[simp] theorem count_appendChannel (i : ChannelIndex) (l : Line) : (s.appendChannel i l).count = i.succ := rfl
@[simp] theorem cursor_appendChannel (i : ChannelIndex) (l : Line) : (s.appendChannel i l).cursor = s.cursor := rfl
@[simp] theorem armed_appendChannel (i : ChannelIndex) (l : Line) : (s.appendChannel i l).armed = s.armed := rfl
@[simp] theorem tcnt_appendChannel (i : ChannelIndex) (l : Line) : (s.appendChannel i l).tcnt = s.tcnt := rfl
@[simp] theorem ocr_appendChannel (i : ChannelIndex) (l : Line) : (s.appendChannel i l).ocr = s.ocr := rfl
@[simp] theorem cmf_appendChannel (i : ChannelIndex) (l : Line) : (s.appendChannel i l).cmf = s.cmf := rfl
@[simp] theorem dir_appendChannel (i : ChannelIndex) (l : Line) : (s.appendChannel i l).dir = s.dir := rfl
@[simp] theorem level_appendChannel (i : ChannelIndex) (l : Line) : (s.appendChannel i l).level = s.level := rfl
@[simp] theorem rsp_appendChannel (i : ChannelIndex) (l : Line) : (s.appendChannel i l).rsp = s.rsp := rfl
@[simp] theorem cmStrobe_appendChannel (i : ChannelIndex) (l : Line) : (s.appendChannel i l).cmStrobe = s.cmStrobe := rfl
@[simp] theorem params_appendChannel (i : ChannelIndex) (l : Line) : (s.appendChannel i l).params = s.params := rfl
@[simp] theorem inputs_appendChannel (i : ChannelIndex) (l : Line) : (s.appendChannel i l).inputs = s.inputs := rfl
@[simp] theorem cycle_appendChannel (i : ChannelIndex) (l : Line) : (s.appendChannel i l).cycle = s.cycle := rfl

/-! ### setCursor -/

@[simp] theorem reg_setCursor (c : Option ChannelIndex) : (s.setCursor c).reg = s.reg := rfl
@[simp] theorem count_setCursor (c : Option ChannelIndex) : (s.setCursor c).count = s.count := rfl
@[simp] theorem cursor_setCursor (c : Option ChannelIndex) : (s.setCursor c).cursor = c := rfl
@[simp] theorem armed_setCursor (c : Option ChannelIndex) : (s.setCursor c).armed = s.armed := rfl
@[simp] theorem tcnt_setCursor (c : Option ChannelIndex) : (s.setCursor c).tcnt = s.tcnt := rfl
@[simp] theorem ocr_setCursor (c : Option ChannelIndex) : (s.setCursor c).ocr = s.ocr := rfl
@[simp] theorem cmf_setCursor (c : Option ChannelIndex) : (s.setCursor c).cmf = s.cmf := rfl
@[simp] theorem dir_setCursor (c : Option ChannelIndex) : (s.setCursor c).dir = s.dir := rfl
@[simp] theorem level_setCursor (c : Option ChannelIndex) : (s.setCursor c).level = s.level := rfl
@[simp] theorem rsp_setCursor (c : Option ChannelIndex) : (s.setCursor c).rsp = s.rsp := rfl
@[simp] theorem cmStrobe_setCursor (c : Option ChannelIndex) : (s.setCursor c).cmStrobe = s.cmStrobe := rfl
@[simp] theorem params_setCursor (c : Option ChannelIndex) : (s.setCursor c).params = s.params := rfl
@[simp] theorem inputs_setCursor (c : Option ChannelIndex) : (s.setCursor c).inputs = s.inputs := rfl
@[simp] theorem cycle_setCursor (c : Option ChannelIndex) : (s.setCursor c).cycle = s.cycle := rfl

/-! ### setCount -/

@[simp] theorem reg_setCount (t : Ticks) : (s.setCount t).reg = s.reg := rfl
@[simp] theorem count_setCount (t : Ticks) : (s.setCount t).count = s.count := rfl
@[simp] theorem cursor_setCount (t : Ticks) : (s.setCount t).cursor = s.cursor := rfl
@[simp] theorem armed_setCount (t : Ticks) : (s.setCount t).armed = s.armed := rfl
@[simp] theorem tcnt_setCount (t : Ticks) : (s.setCount t).tcnt = t := rfl
@[simp] theorem ocr_setCount (t : Ticks) : (s.setCount t).ocr = s.ocr := rfl
@[simp] theorem cmf_setCount (t : Ticks) : (s.setCount t).cmf = s.cmf := rfl
@[simp] theorem dir_setCount (t : Ticks) : (s.setCount t).dir = s.dir := rfl
@[simp] theorem level_setCount (t : Ticks) : (s.setCount t).level = s.level := rfl
@[simp] theorem rsp_setCount (t : Ticks) : (s.setCount t).rsp = s.rsp := rfl
@[simp] theorem cmStrobe_setCount (t : Ticks) : (s.setCount t).cmStrobe = s.cmStrobe := rfl
@[simp] theorem params_setCount (t : Ticks) : (s.setCount t).params = s.params := rfl
@[simp] theorem inputs_setCount (t : Ticks) : (s.setCount t).inputs = s.inputs := rfl
@[simp] theorem cycle_setCount (t : Ticks) : (s.setCount t).cycle = s.cycle := rfl

/-! ### armCompareMatch -/

@[simp] theorem reg_armCompareMatch (t : Ticks) : (s.armCompareMatch t).reg = s.reg := rfl
@[simp] theorem count_armCompareMatch (t : Ticks) : (s.armCompareMatch t).count = s.count := rfl
@[simp] theorem cursor_armCompareMatch (t : Ticks) : (s.armCompareMatch t).cursor = s.cursor := rfl
@[simp] theorem armed_armCompareMatch (t : Ticks) : (s.armCompareMatch t).armed = s.armed := rfl
@[simp] theorem tcnt_armCompareMatch (t : Ticks) : (s.armCompareMatch t).tcnt = s.tcnt := rfl
@[simp] theorem ocr_armCompareMatch (t : Ticks) : (s.armCompareMatch t).ocr = t := rfl
@[simp] theorem cmf_armCompareMatch (t : Ticks) : (s.armCompareMatch t).cmf = s.cmf := rfl
@[simp] theorem dir_armCompareMatch (t : Ticks) : (s.armCompareMatch t).dir = s.dir := rfl
@[simp] theorem level_armCompareMatch (t : Ticks) : (s.armCompareMatch t).level = s.level := rfl
@[simp] theorem rsp_armCompareMatch (t : Ticks) : (s.armCompareMatch t).rsp = s.rsp := rfl
@[simp] theorem cmStrobe_armCompareMatch (t : Ticks) : (s.armCompareMatch t).cmStrobe = s.cmStrobe := rfl
@[simp] theorem params_armCompareMatch (t : Ticks) : (s.armCompareMatch t).params = s.params := rfl
@[simp] theorem inputs_armCompareMatch (t : Ticks) : (s.armCompareMatch t).inputs = s.inputs := rfl
@[simp] theorem cycle_armCompareMatch (t : Ticks) : (s.armCompareMatch t).cycle = s.cycle := rfl

/-! ### onCompareMatch -/

@[simp] theorem reg_onCompareMatch : (s.onCompareMatch).reg = s.reg := rfl
@[simp] theorem count_onCompareMatch : (s.onCompareMatch).count = s.count := rfl
@[simp] theorem cursor_onCompareMatch : (s.onCompareMatch).cursor = s.cursor := rfl
@[simp] theorem armed_onCompareMatch : (s.onCompareMatch).armed = true := rfl
@[simp] theorem tcnt_onCompareMatch : (s.onCompareMatch).tcnt = s.tcnt := rfl
@[simp] theorem ocr_onCompareMatch : (s.onCompareMatch).ocr = s.ocr := rfl
@[simp] theorem cmf_onCompareMatch : (s.onCompareMatch).cmf = s.cmf := rfl
@[simp] theorem dir_onCompareMatch : (s.onCompareMatch).dir = s.dir := rfl
@[simp] theorem level_onCompareMatch : (s.onCompareMatch).level = s.level := rfl
@[simp] theorem rsp_onCompareMatch : (s.onCompareMatch).rsp = s.rsp := rfl
@[simp] theorem cmStrobe_onCompareMatch : (s.onCompareMatch).cmStrobe = s.cmStrobe := rfl
@[simp] theorem params_onCompareMatch : (s.onCompareMatch).params = s.params := rfl
@[simp] theorem inputs_onCompareMatch : (s.onCompareMatch).inputs = s.inputs := rfl
@[simp] theorem cycle_onCompareMatch : (s.onCompareMatch).cycle = s.cycle := rfl

/-! ### configureAsOutput -/

@[simp] theorem reg_configureAsOutput (l : Line) : (s.configureAsOutput l).reg = s.reg := rfl
@[simp] theorem count_configureAsOutput (l : Line) : (s.configureAsOutput l).count = s.count := rfl
@[simp] theorem cursor_configureAsOutput (l : Line) : (s.configureAsOutput l).cursor = s.cursor := rfl
@[simp] theorem armed_configureAsOutput (l : Line) : (s.configureAsOutput l).armed = s.armed := rfl
@[simp] theorem tcnt_configureAsOutput (l : Line) : (s.configureAsOutput l).tcnt = s.tcnt := rfl
@[simp] theorem ocr_configureAsOutput (l : Line) : (s.configureAsOutput l).ocr = s.ocr := rfl
@[simp] theorem cmf_configureAsOutput (l : Line) : (s.configureAsOutput l).cmf = s.cmf := rfl
@[simp] theorem dir_configureAsOutput (l : Line) : (s.configureAsOutput l).dir = s.dir.set l true := rfl
@[simp] theorem level_configureAsOutput (l : Line) : (s.configureAsOutput l).level = s.level := rfl
@[simp] theorem rsp_configureAsOutput (l : Line) : (s.configureAsOutput l).rsp = s.rsp := rfl
@[simp] theorem cmStrobe_configureAsOutput (l : Line) : (s.configureAsOutput l).cmStrobe = s.cmStrobe := rfl
@[simp] theorem params_configureAsOutput (l : Line) : (s.configureAsOutput l).params = s.params := rfl
@[simp] theorem inputs_configureAsOutput (l : Line) : (s.configureAsOutput l).inputs = s.inputs := rfl
@[simp] theorem cycle_configureAsOutput (l : Line) : (s.configureAsOutput l).cycle = s.cycle := rfl

/-! ### setLine -/

@[simp] theorem reg_setLine (l : Line) (b : Bool) : (s.setLine l b).reg = s.reg := rfl
@[simp] theorem count_setLine (l : Line) (b : Bool) : (s.setLine l b).count = s.count := rfl
@[simp] theorem cursor_setLine (l : Line) (b : Bool) : (s.setLine l b).cursor = s.cursor := rfl
@[simp] theorem armed_setLine (l : Line) (b : Bool) : (s.setLine l b).armed = s.armed := rfl
@[simp] theorem tcnt_setLine (l : Line) (b : Bool) : (s.setLine l b).tcnt = s.tcnt := rfl
@[simp] theorem ocr_setLine (l : Line) (b : Bool) : (s.setLine l b).ocr = s.ocr := rfl
@[simp] theorem cmf_setLine (l : Line) (b : Bool) : (s.setLine l b).cmf = s.cmf := rfl
@[simp] theorem dir_setLine (l : Line) (b : Bool) : (s.setLine l b).dir = s.dir := rfl
@[simp] theorem level_setLine (l : Line) (b : Bool) : (s.setLine l b).level = s.level.set l b := rfl
@[simp] theorem rsp_setLine (l : Line) (b : Bool) : (s.setLine l b).rsp = s.rsp := rfl
@[simp] theorem cmStrobe_setLine (l : Line) (b : Bool) : (s.setLine l b).cmStrobe = s.cmStrobe := rfl
@[simp] theorem params_setLine (l : Line) (b : Bool) : (s.setLine l b).params = s.params := rfl
@[simp] theorem inputs_setLine (l : Line) (b : Bool) : (s.setLine l b).inputs = s.inputs := rfl
@[simp] theorem cycle_setLine (l : Line) (b : Bool) : (s.setLine l b).cycle = s.cycle := rfl

/-! ### respond -/

@[simp] theorem reg_respond (id : ChannelId) : (s.respond id).reg = s.reg := rfl
@[simp] theorem count_respond (id : ChannelId) : (s.respond id).count = s.count := rfl
@[simp] theorem cursor_respond (id : ChannelId) : (s.respond id).cursor = s.cursor := rfl
@[simp] theorem armed_respond (id : ChannelId) : (s.respond id).armed = s.armed := rfl
@[simp] theorem tcnt_respond (id : ChannelId) : (s.respond id).tcnt = s.tcnt := rfl
@[simp] theorem ocr_respond (id : ChannelId) : (s.respond id).ocr = s.ocr := rfl
@[simp] theorem cmf_respond (id : ChannelId) : (s.respond id).cmf = s.cmf := rfl
@[simp] theorem dir_respond (id : ChannelId) : (s.respond id).dir = s.dir := rfl
@[simp] theorem level_respond (id : ChannelId) : (s.respond id).level = s.level := rfl
@[simp] theorem rsp_respond (id : ChannelId) : (s.respond id).rsp = some id := rfl
@[simp] theorem cmStrobe_respond (id : ChannelId) : (s.respond id).cmStrobe = s.cmStrobe := rfl
@[simp] theorem params_respond (id : ChannelId) : (s.respond id).params = s.params := rfl
@[simp] theorem inputs_respond (id : ChannelId) : (s.respond id).inputs = s.inputs := rfl
@[simp] theorem cycle_respond (id : ChannelId) : (s.respond id).cycle = s.cycle := rfl

/-! ### dropStrobes -/

@[simp] theorem reg_dropStrobes : (s.dropStrobes).reg = s.reg := rfl
@[simp] theorem count_dropStrobes : (s.dropStrobes).count = s.count := rfl
@[simp] theorem cursor_dropStrobes : (s.dropStrobes).cursor = s.cursor := rfl
@[simp] theorem armed_dropStrobes : (s.dropStrobes).armed = s.armed := rfl
@[simp] theorem tcnt_dropStrobes : (s.dropStrobes).tcnt = s.tcnt := rfl
@[simp] theorem ocr_dropStrobes : (s.dropStrobes).ocr = s.ocr := rfl
@[simp] theorem cmf_dropStrobes : (s.dropStrobes).cmf = s.cmf := rfl
@[simp] theorem dir_dropStrobes : (s.dropStrobes).dir = s.dir := rfl
@[simp] theorem level_dropStrobes : (s.dropStrobes).level = s.level := rfl
@[simp] theorem rsp_dropStrobes : (s.dropStrobes).rsp = none := rfl
@[simp] theorem cmStrobe_dropStrobes : (s.dropStrobes).cmStrobe = false := rfl
@[simp] theorem params_dropStrobes : (s.dropStrobes).params = s.params := rfl
@[simp] theorem inputs_dropStrobes : (s.dropStrobes).inputs = s.inputs := rfl
@[simp] theorem cycle_dropStrobes : (s.dropStrobes).cycle = s.cycle := rfl

/-! ### enterInterrupt -/

@[simp] theorem reg_enterInterrupt : (s.enterInterrupt).reg = s.reg := rfl
@[simp] theorem count_enterInterrupt : (s.enterInterrupt).count = s.count := rfl
@[simp] theorem cursor_enterInterrupt : (s.enterInterrupt).cursor = s.cursor := rfl
@[simp] theorem armed_enterInterrupt : (s.enterInterrupt).armed = s.armed := rfl
@[simp] theorem tcnt_enterInterrupt : (s.enterInterrupt).tcnt = s.tcnt := rfl
@[simp] theorem ocr_enterInterrupt : (s.enterInterrupt).ocr = s.ocr := rfl
@[simp] theorem cmf_enterInterrupt : (s.enterInterrupt).cmf = false := rfl
@[simp] theorem dir_enterInterrupt : (s.enterInterrupt).dir = s.dir := rfl
@[simp] theorem level_enterInterrupt : (s.enterInterrupt).level = s.level := rfl
@[simp] theorem rsp_enterInterrupt : (s.enterInterrupt).rsp = s.rsp := rfl
@[simp] theorem cmStrobe_enterInterrupt : (s.enterInterrupt).cmStrobe = true := rfl
@[simp] theorem params_enterInterrupt : (s.enterInterrupt).params = s.params := rfl
@[simp] theorem inputs_enterInterrupt : (s.enterInterrupt).inputs = s.inputs := rfl
@[simp] theorem cycle_enterInterrupt : (s.enterInterrupt).cycle = s.cycle := rfl

/-! ### arm -/

@[simp] theorem reg_arm : (s.arm).reg = s.reg := rfl
@[simp] theorem count_arm : (s.arm).count = s.count := rfl
@[simp] theorem cursor_arm : (s.arm).cursor = s.cursor := rfl
@[simp] theorem armed_arm : (s.arm).armed = true := rfl
@[simp] theorem tcnt_arm : (s.arm).tcnt = 0#16 := rfl
@[simp] theorem ocr_arm : (s.arm).ocr = s.ocr := rfl
@[simp] theorem cmf_arm : (s.arm).cmf = false := rfl
@[simp] theorem dir_arm : (s.arm).dir = s.dir := rfl
@[simp] theorem level_arm : (s.arm).level = s.level := rfl
@[simp] theorem rsp_arm : (s.arm).rsp = s.rsp := rfl
@[simp] theorem cmStrobe_arm : (s.arm).cmStrobe = s.cmStrobe := rfl
@[simp] theorem params_arm : (s.arm).params = s.params := rfl
@[simp] theorem inputs_arm : (s.arm).inputs = s.inputs := rfl
@[simp] theorem cycle_arm : (s.arm).cycle = s.cycle := rfl

/-! ### takePins -/

@[simp] theorem reg_takePins : (s.takePins).reg = s.reg := rfl
@[simp] theorem count_takePins : (s.takePins).count = s.count := rfl
@[simp] theorem cursor_takePins : (s.takePins).cursor = s.cursor := rfl
@[simp] theorem armed_takePins : (s.takePins).armed = s.armed := rfl
@[simp] theorem tcnt_takePins : (s.takePins).tcnt = s.tcnt := rfl
@[simp] theorem ocr_takePins : (s.takePins).ocr = s.ocr := rfl
@[simp] theorem cmf_takePins : (s.takePins).cmf = s.cmf := rfl
@[simp] theorem dir_takePins : (s.takePins).dir = s.dir := rfl
@[simp] theorem level_takePins : (s.takePins).level = s.level := rfl
@[simp] theorem rsp_takePins : (s.takePins).rsp = s.rsp := rfl
@[simp] theorem cmStrobe_takePins : (s.takePins).cmStrobe = s.cmStrobe := rfl
@[simp] theorem params_takePins : (s.takePins).params = s.params := rfl
@[simp] theorem inputs_takePins : (s.takePins).inputs = s.inputs.tail := rfl
@[simp] theorem cycle_takePins : (s.takePins).cycle = s.cycle + 1 := rfl

/-! ### presentCommand -/

@[simp] theorem reg_presentCommand (w : CmdWord) : (s.presentCommand w).reg = s.reg := rfl
@[simp] theorem count_presentCommand (w : CmdWord) : (s.presentCommand w).count = s.count := rfl
@[simp] theorem cursor_presentCommand (w : CmdWord) : (s.presentCommand w).cursor = s.cursor := rfl
@[simp] theorem armed_presentCommand (w : CmdWord) : (s.presentCommand w).armed = s.armed := rfl
@[simp] theorem tcnt_presentCommand (w : CmdWord) : (s.presentCommand w).tcnt = s.tcnt := rfl
@[simp] theorem ocr_presentCommand (w : CmdWord) : (s.presentCommand w).ocr = s.ocr := rfl
@[simp] theorem cmf_presentCommand (w : CmdWord) : (s.presentCommand w).cmf = s.cmf := rfl
@[simp] theorem dir_presentCommand (w : CmdWord) : (s.presentCommand w).dir = s.dir := rfl
@[simp] theorem level_presentCommand (w : CmdWord) : (s.presentCommand w).level = s.level := rfl
@[simp] theorem rsp_presentCommand (w : CmdWord) : (s.presentCommand w).rsp = s.rsp := rfl
@[simp] theorem cmStrobe_presentCommand (w : CmdWord) : (s.presentCommand w).cmStrobe = s.cmStrobe := rfl
@[simp] theorem params_presentCommand (w : CmdWord) : (s.presentCommand w).params = s.params := rfl
@[simp] theorem inputs_presentCommand (w : CmdWord) : (s.presentCommand w).inputs = commandCycle w :: s.inputs := rfl
@[simp] theorem cycle_presentCommand (w : CmdWord) : (s.presentCommand w).cycle = s.cycle := rfl

/-! ### getCount -/

@[simp] theorem fst_getCount : s.getCount.1 = s.tcnt := rfl
@[simp] theorem snd_getCount : s.getCount.2 = s := rfl

end Sys2Proof.Machine.State
end

