-- ==== Sys2Proof/Laws/Ops.lean ====
section
/-! SUPPORT. One specification lemma per shared operation: callers cite it and do not unfold the operation. -/

namespace Sys2Proof.Machine

/-! ### The registry -/

namespace State

variable (s : State)

/-- The bounds check answers the entry of that very index, exactly below the live `COUNT`. -/
theorem liveIndex_eq_some_iff {n : Nat} {i : ChannelIndex} :
    s.liveIndex n = some i ↔ i.val = n ∧ n < s.count.val := by
  unfold liveIndex
  split
  · rename_i h
    constructor
    · intro e
      exact ⟨(congrArg Fin.val (Option.some.inj e)).symm, h⟩
    · rintro ⟨rfl, -⟩
      rfl
  · rename_i h
    exact ⟨fun e => by simp at e, fun e => absurd e.2 h⟩

/-- The bounds check answers nothing exactly at and above the live `COUNT`. -/
theorem liveIndex_eq_none_iff {n : Nat} : s.liveIndex n = none ↔ s.count.val ≤ n := by
  unfold liveIndex
  split <;> simp <;> omega

/-- The free entry is the one of index `COUNT`, while `COUNT < 9`. -/
theorem freeIndex_eq_some_iff {i : ChannelIndex} : s.freeIndex = some i ↔ i.val = s.count.val := by
  unfold freeIndex
  split
  · simp [Fin.ext_iff, eq_comm]
  · have := i.isLt
    simp
    omega

/-- There is no free entry exactly when the registry is full. -/
theorem freeIndex_eq_none_iff : s.freeIndex = none ↔ s.count.val = 9 := by
  have := s.count.isLt
  unfold freeIndex
  split <;> simp <;> omega

/-- A width write changes one width and nothing else of the registry. -/
theorem getElem_reg_setWidth (i j : ChannelIndex) (w : Ticks) :
    (s.setWidth i w).reg[j] = if j = i then { s.reg[j] with width := w } else s.reg[j] := by
  simp only [reg_setWidth, chan, Fin.getElem_fin, Vector.getElem_set, Fin.ext_iff]
  split <;> rename_i h
  · simp [h]
  · rw [if_neg (fun e => h e.symm)]

/-- Appending writes the entry it is given and no other. -/
theorem getElem_reg_appendChannel (i j : ChannelIndex) (l : Line) :
    (s.appendChannel i l).reg[j] = if j = i then ⟨l, 0#16⟩ else s.reg[j] := by
  simp [Vector.getElem_set, Fin.ext_iff, eq_comm]

/-! ### Lines -/

/-- `SetLine` writes one level. -/
theorem getElem_level_setLine (l m : Line) (b : Bool) :
    (s.setLine l b).level[m] = if m = l then b else s.level[m] := by
  simp [Vector.getElem_set, Fin.ext_iff, eq_comm]

/-- `ConfigureAsOutput` sets one direction bit. -/
theorem getElem_dir_configureAsOutput (l m : Line) :
    (s.configureAsOutput l).dir[m] = if m = l then true else s.dir[m] := by
  simp [Vector.getElem_set, Fin.ext_iff, eq_comm]

end State

/-- Bit `l` of a line port is entry `l`. -/
theorem getLsbD_portWord (v : Vector Bool 32) (l : Line) : (portWord v).getLsbD l.val = v[l] := by
  unfold portWord
  simp

/-- The tick sum is 16-bit addition. -/
theorem tickSum_eq_add (now : Ticks) (d : Nat) : tickSum now d = now + BitVec.ofNat 16 d := by
  unfold tickSum
  apply BitVec.eq_of_toNat_eq
  simp

/-- The conversion never truncates in a well-formed configuration (R88). -/
theorem ticksOfAngle_lt {p : Params} (h : paramsWellFormed p = true) {a : Nat} (ha : a ≤ 180) :
    ticksOfAngle p a < 2 ^ 16 := by
  simp only [paramsWellFormed, Bool.and_eq_true, decide_eq_true_eq] at h
  refine lt_of_le_of_lt ?_ h.1.1.1.2
  unfold ticksOfAngle ticksOfUs pulseUsOfAngle
  refine Nat.div_le_div_right (Nat.mul_le_mul_right _ (Nat.add_le_add_left ?_ _))
  simp only [Config.spanUs, Config.angleMax]
  omega

/-! ### Width commands -/

theorem State.SameButWidths.refl (s : State) : s.SameButWidths s := ⟨rfl, fun _ => rfl⟩

/-- A width write changes nothing but widths. -/
theorem State.sameButWidths_setWidth (s : State) (i : ChannelIndex) (w : Ticks) :
    s.SameButWidths (s.setWidth i w) := by
  refine ⟨rfl, fun j => ?_⟩
  rw [getElem_reg_setWidth]
  split <;> rfl

/-! ### Distances and slot sums -/

/-- A threshold is never reached without a tick (R73). -/
theorem one_le_ticksUntil (t v : Ticks) : 1 ≤ ticksUntil t v := by
  unfold ticksUntil
  split <;> omega

/-- One tick is left exactly when the next tick reaches the threshold. -/
theorem ticksUntil_eq_one_iff (t v : Ticks) : ticksUntil t v = 1 ↔ t + 1#16 = v := by
  unfold ticksUntil
  rw [← BitVec.toNat_inj, BitVec.toNat_add, show (1#16).toNat = 1 from rfl]
  split <;> omega

/-- A tick that does not reach the threshold lowers the distance by one. -/
theorem ticksUntil_tick {t v : Ticks} (h : 1 < ticksUntil t v) : ticksUntil (t + 1#16) v = ticksUntil t v - 1 := by
  unfold ticksUntil at *
  rw [BitVec.toNat_add, show (1#16).toNat = 1 from rfl]
  split at h <;> split <;> omega

/-- The distance to a threshold armed `w` ticks ahead is `w`, whether or not the sum wraps. -/
theorem ticksUntil_add (t : Ticks) {w : Ticks} (h : w ≠ 0#16) : ticksUntil t (t + w) = w.toNat := by
  have h0 : w.toNat ≠ 0 := fun e => h (BitVec.eq_of_toNat_eq e)
  unfold ticksUntil
  rw [BitVec.toNat_add]
  split <;> omega

/-- A slot takes at least one tick (R132). -/
theorem one_le_slotTicks {p : Params} (h : paramsWellFormed p = true) (c : Channel) : 1 ≤ slotTicks p c := by
  simp only [paramsWellFormed, Bool.and_eq_true, decide_eq_true_eq] at h
  unfold slotTicks
  split
  · exact h.1.2
  · rename_i hw
    exact Nat.pos_of_ne_zero fun e => hw (BitVec.eq_of_toNat_eq e)

/-- The sum of the slots up to and with entry `i`. -/
theorem State.slotSum_succ (s : State) (i : ChannelIndex) :
    s.slotSum (i.val + 1) = s.slotSum i.val + slotTicks s.params s.reg[i] := by
  simp only [slotSum, i.isLt, dif_pos]
  rfl

/-- Slot sums grow with the number of slots. -/
theorem State.slotSum_mono (s : State) {m n : Nat} (h : m ≤ n) : s.slotSum m ≤ s.slotSum n := by
  induction h with
  | refl => exact Nat.le_refl _
  | step _ ih => exact Nat.le_trans ih (Nat.le_add_right _ _)

/-- Slot sums depend on the registry and the configuration only. -/
theorem State.slotSum_congr {s t : State} (hr : t.reg = s.reg) (hp : t.params = s.params) (n : Nat) :
    t.slotSum n = s.slotSum n := by
  induction n with
  | zero => rfl
  | succ n ih => simp only [slotSum, ih, hr, hp]

/-! ### Outcomes -/

/-- Under a well-formed configuration a transition answers its next state. -/
@[simp] theorem whenConfigured_of_configured {s : State} (h : s.Configured) (f : State → State) :
    whenConfigured s f = .next (f s) := by
  simp [whenConfigured, h]

/-- A transition answers a next state only under a well-formed configuration. -/
theorem whenConfigured_eq_next_iff {s t : State} {f : State → State} :
    whenConfigured s f = .next t ↔ s.Configured ∧ t = f s := by
  unfold whenConfigured
  by_cases h : s.Configured
  · rw [if_pos h]
    exact ⟨fun e => ⟨h, (Host.Outcome.next.inj e).symm⟩, fun e => by rw [e.2]⟩
  · rw [if_neg h]
    exact ⟨fun e => (nomatch e), fun e => absurd e.1 h⟩

/-- An ill-formed configuration is refused. -/
theorem whenConfigured_of_not_configured {s : State} (h : ¬ s.Configured) (f : State → State) :
    whenConfigured s f = .refused .illFormedConfiguration := by
  simp [whenConfigured, h]

@[simp] theorem andThen_next (s : State) (f : State → Host.Outcome State Fault Refusal) :
    andThen (.next s) f = f s := rfl

@[simp] theorem andThen_refused (r : Refusal) (f : State → Host.Outcome State Fault Refusal) :
    andThen (.refused r) f = .refused r := rfl

/-- A composition answers a next state exactly when both parts do. -/
theorem andThen_eq_next_iff {o : Host.Outcome State Fault Refusal}
    {f : State → Host.Outcome State Fault Refusal} {t : State} :
    andThen o f = .next t ↔ ∃ u, o = .next u ∧ f u = .next t := by
  cases o <;> simp [andThen]

end Sys2Proof.Machine
end

