-- ==== Sys2Proof/Laws/Transitions.lean ====
section
/-! SUPPORT. What each transition of the block can do, said once: the provers cite these and do not unfold the
meanings. -/

namespace Sys2Proof.Machine.State

variable (s : State)

/-- `Tick` while armed. -/
theorem tick_of_armed (h : s.armed = true) :
    s.tick = { s with tcnt := s.tcnt + 1#16, cmf := s.cmf || (s.tcnt + 1#16 == s.ocr) } := by
  unfold tick
  rw [if_pos h]
  by_cases e : s.tcnt + 1#16 = s.ocr <;> simp [countMatches, setPending, setCount, e]

/-- `Tick` while not armed. -/
theorem tick_of_not_armed (h : s.armed = false) : s.tick = s := by
  simp [tick, h]

/-- Closing at the sentinel starts a frame. -/
theorem closeSlot_of_none (h : s.cursor = none) : s.closeSlot = (0, s.setCount 0#16) := by
  simp [closeSlot, h]

/-- Closing an open slot drives its line low. -/
theorem closeSlot_of_some {i : ChannelIndex} (h : s.cursor = some i) :
    s.closeSlot = (i.val + 1, s.setLine (s.chan i).line false) := by
  simp [closeSlot, h]

/-- Closing changes `TCNT` and `LEVEL` at most. -/
theorem closeSlot_snd :
    s.closeSlot.2 = { s with tcnt := s.closeSlot.2.tcnt, level := s.closeSlot.2.level } := by
  unfold closeSlot
  split <;> rfl

/-- A step opens the slot of a live entry or enters the frame tail. -/
theorem schedulerStep_cases :
    (∃ i : ChannelIndex, i.val = s.closeSlot.1 ∧ i.val < s.count.val ∧
      s.schedulerStep = s.closeSlot.2.openSlot i) ∨
    (s.count.val ≤ s.closeSlot.1 ∧ s.schedulerStep = s.closeSlot.2.enterTail) := by
  have hc : s.closeSlot.2.count = s.count := by rw [closeSlot_snd]
  unfold schedulerStep
  cases h : s.closeSlot.2.liveIndex s.closeSlot.1 with
  | some i =>
    obtain ⟨hi, hlt⟩ := (liveIndex_eq_some_iff _).1 h
    exact .inl ⟨i, hi, by rw [hi, ← hc]; exact hlt, by simp only [h]⟩
  | none =>
    have hle := (liveIndex_eq_none_iff _).1 h
    exact .inr ⟨by rwa [hc] at hle, by simp only [h]⟩

/-- A step changes `CURSOR`, `TCNT`, `OCR` and `LEVEL` at most (R96, R122). -/
theorem schedulerStep_frame :
    s.schedulerStep =
      { s with
        cursor := s.schedulerStep.cursor
        tcnt := s.schedulerStep.tcnt
        ocr := s.schedulerStep.ocr
        level := s.schedulerStep.level } := by
  have hc := closeSlot_snd s
  generalize s.closeSlot.2.tcnt = t0, s.closeSlot.2.level = l0 at hc
  rcases schedulerStep_cases s with ⟨i, -, -, e⟩ | ⟨-, e⟩ <;> rw [hc] at e <;> rw [e]
  · simp only [openSlot]
    split <;> rfl
  · simp only [enterTail]
    split <;> rfl

/-- One entry of the scan: the live entry `n` gets the width if it is on the line. -/
theorem scanLine_succ (line : Line) (w : Ticks) (n : Nat) :
    (∃ i : ChannelIndex, i.val = n ∧ n < (s.scanLine line w n).count.val ∧
      ((s.scanLine line w n).reg[i]).line = line ∧
      s.scanLine line w (n + 1) = (s.scanLine line w n).setWidth i w) ∨
    ((∀ i : ChannelIndex, i.val = n → i.val < (s.scanLine line w n).count.val →
        ((s.scanLine line w n).reg[i]).line ≠ line) ∧
      s.scanLine line w (n + 1) = s.scanLine line w n) := by
  simp only [scanLine]
  split
  · rename_i i hl
    obtain ⟨hi, hlt⟩ := (liveIndex_eq_some_iff _).1 hl
    split
    · rename_i hline
      exact .inl ⟨i, hi, hlt, hline, rfl⟩
    · rename_i hline
      refine .inr ⟨fun j hj _ => ?_, rfl⟩
      obtain rfl : j = i := Fin.ext (hj.trans hi.symm)
      exact hline
  · rename_i hl
    have hle := (liveIndex_eq_none_iff _).1 hl
    exact .inr ⟨fun j hj hlt => absurd hlt (by omega), rfl⟩

/-- The scan writes the registry at most. -/
theorem scanLine_frame (line : Line) (w : Ticks) (n : Nat) :
    s.scanLine line w n = { s with reg := (s.scanLine line w n).reg } := by
  induction n with
  | zero => rfl
  | succ n ih =>
    rcases scanLine_succ s line w n with ⟨i, -, -, -, e⟩ | ⟨-, e⟩ <;> rw [e]
    · generalize s.scanLine line w n = t at ih
      generalize t.reg = r at ih
      subst ih
      rfl
    · exact ih

/-- The scan up to `n` gives the width to every live entry below `n` on the line, and to no other (R82). -/
theorem getElem_reg_scanLine (line : Line) (w : Ticks) (n : Nat) (j : ChannelIndex) :
    (s.scanLine line w n).reg[j] =
      if j.val < n ∧ j.val < s.count.val ∧ (s.reg[j]).line = line then { s.reg[j] with width := w }
      else s.reg[j] := by
  induction n with
  | zero => simp [scanLine]
  | succ n ih =>
    have hc : (s.scanLine line w n).count = s.count := by rw [scanLine_frame]
    rcases scanLine_succ s line w n with ⟨i, hi, hlt, hline, e⟩ | ⟨hno, e⟩ <;> rw [e]
    · rw [getElem_reg_setWidth]
      by_cases hj : j = i
      · subst hj
        rw [hc] at hlt
        rw [if_neg (by omega)] at ih
        rw [ih] at hline ⊢
        rw [if_pos rfl, if_pos ⟨by omega, by omega, hline⟩]
      · have hne : j.val ≠ n := fun h => hj (Fin.ext (h.trans hi.symm))
        rw [if_neg hj, ih]
        exact if_congr ⟨fun h => ⟨by omega, h.2⟩, fun h => ⟨by omega, h.2⟩⟩ rfl rfl
    · by_cases hn : j.val = n
      · have hj := hno j hn
        rw [hc] at hj
        rw [if_neg (by omega)] at ih
        rw [ih] at hj ⊢
        rw [if_neg (fun h => hj h.2.1 h.2.2)]
      · rw [ih]
        exact if_congr ⟨fun h => ⟨by omega, h.2⟩, fun h => ⟨by omega, h.2⟩⟩ rfl rfl

/-- A registration with room: every element after it (R75, R77). -/
theorem register_of_room (line : Line) {i : ChannelIndex} (h : i.val = s.count.val) :
    s.register line =
      { s with
        dir := s.dir.set line true
        level := s.level.set line false
        armed := if i.val = 0 then true else s.armed
        tcnt := if i.val = 0 then 0#16 else s.tcnt
        cmf := if i.val = 0 then false else s.cmf
        reg := s.reg.set i ⟨line, 0#16⟩
        count := i.succ
        rsp := some (BitVec.ofNat 8 i.val) } := by
  simp only [register, (freeIndex_eq_some_iff s).2 h]
  split <;> rfl

/-- A registration without room responds `INVALID_ID` and changes nothing else (R76). -/
theorem register_of_full (line : Line) (h : s.count.val = 9) :
    s.register line = { s with rsp := some 0xFF#8 } := by
  simp only [register, (freeIndex_eq_none_iff s).2 h]
  rfl

end Sys2Proof.Machine.State
end

