-- ==== Sys2Proof/Laws/Exec.lean ====
section
/-! SUPPORT. `exec` and `step` as total functions of the state under a well-formed configuration: cite these instead of
unfolding a meaning, a phase or the cycle. -/

namespace Sys2Proof.Machine

/-- What each operation does to the state, the configuration being well-formed. -/
def effect : Instr → State → State
  | .register line => fun s => s.register line
  | .setpulseId id ticks => fun s => s.setPulseById id ticks
  | .setpulseLine line ticks => fun s => s.setPulseByLine line ticks
  | .setangleId id deg => fun s => s.setAngleById id deg
  | .setangleLine line deg => fun s => s.setAngleByLine line deg
  | .reserved0 | .reserved6 | .reserved7 | .reserved8 | .reserved9 | .reservedA
  | .reservedB | .reservedC | .reservedD | .reservedE | .reservedF => id
  | .tick => State.tick
  | .dispatch => State.dispatch
  | .step => State.schedulerStep
  | .reset => State.clearAll
  | .getCount => id
  | .setCount ticks => fun s => s.setCount ticks
  | .armCompareMatch ticks => fun s => s.armCompareMatch ticks
  | .onCompareMatch => State.onCompareMatch
  | .configureAsOutput line => fun s => s.configureAsOutput line
  | .setLine line level => fun s => s.setLine line level

/-- Every operation is its effect under the check of the configuration. -/
theorem exec_eq_whenConfigured (i : Instr) (s : State) : exec i s = whenConfigured s (effect i) := by
  cases i <;> rfl

/-- In a well-formed configuration every operation answers its effect. -/
theorem exec_of_configured {s : State} (h : s.Configured) (i : Instr) : exec i s = .next (effect i s) := by
  rw [exec_eq_whenConfigured, whenConfigured_of_configured h]

/-- When an operation answers a next state, and which. -/
theorem exec_eq_next_iff {i : Instr} {s t : State} : exec i s = .next t ↔ s.Configured ∧ t = effect i s := by
  rw [exec_eq_whenConfigured, whenConfigured_eq_next_iff]

/-- A width command writes the registry at most. -/
theorem State.setPulseById_frame (s : State) (id : ChannelId) (w : Ticks) :
    s.setPulseById id w = { s with reg := (s.setPulseById id w).reg } := by
  unfold State.setPulseById
  split <;> rfl

/-- No operation changes the configuration, the coming inputs or the cycle number. -/
theorem effect_modelFields (i : Instr) (s : State) :
    (effect i s).params = s.params ∧ (effect i s).inputs = s.inputs ∧ (effect i s).cycle = s.cycle := by
  cases i <;> simp only [effect, id_eq, and_self]
  case register line =>
    unfold State.register
    split
    · simp only []
      split <;> exact ⟨rfl, rfl, rfl⟩
    · exact ⟨rfl, rfl, rfl⟩
  case setpulseId id w =>
    rw [State.setPulseById_frame]
    exact ⟨rfl, rfl, rfl⟩
  case setpulseLine line w =>
    rw [State.setPulseByLine, State.scanLine_frame]
    exact ⟨rfl, rfl, rfl⟩
  case setangleId id deg =>
    unfold State.setAngleById
    split
    · rw [State.setPulseById_frame]
      exact ⟨rfl, rfl, rfl⟩
    · exact ⟨rfl, rfl, rfl⟩
  case setangleLine line deg =>
    unfold State.setAngleByLine
    split
    · rw [State.setPulseByLine, State.scanLine_frame]
      exact ⟨rfl, rfl, rfl⟩
    · exact ⟨rfl, rfl, rfl⟩
  case tick =>
    unfold State.tick
    split
    · simp only []
      split <;> exact ⟨rfl, rfl, rfl⟩
    · exact ⟨rfl, rfl, rfl⟩
  case dispatch =>
    unfold State.dispatch
    split
    · rw [State.schedulerStep_frame]
      exact ⟨rfl, rfl, rfl⟩
    · exact ⟨rfl, rfl, rfl⟩
  case step =>
    rw [State.schedulerStep_frame]
    exact ⟨rfl, rfl, rfl⟩
  all_goals exact ⟨rfl, rfl, rfl⟩

/-- An operation leaves a well-formed configuration well-formed. -/
theorem effect_configured {s : State} (h : s.Configured) (i : Instr) : (effect i s).Configured := by
  rw [State.Configured, (effect_modelFields i s).1]
  exact h

/-- `SETPULSE.ID` changes nothing but widths of valid entries. -/
theorem State.setPulseById_widths (s : State) (id : ChannelId) (w : Ticks) :
    s.SameButWidths (s.setPulseById id w) ∧
      ∀ j : ChannelIndex, s.count.val ≤ j.val → (s.setPulseById id w).reg[j] = s.reg[j] := by
  unfold State.setPulseById
  split
  · rename_i i hi
    have hlt := (State.liveIndex_eq_some_iff s).1 hi
    refine ⟨s.sameButWidths_setWidth i w, fun j hj => ?_⟩
    rw [State.getElem_reg_setWidth, if_neg]
    rintro rfl
    omega
  · exact ⟨.refl s, fun _ _ => rfl⟩

/-- `SETPULSE.LINE` changes nothing but widths of valid entries. -/
theorem State.setPulseByLine_widths (s : State) (line : Line) (w : Ticks) :
    s.SameButWidths (s.setPulseByLine line w) ∧
      ∀ j : ChannelIndex, s.count.val ≤ j.val → (s.setPulseByLine line w).reg[j] = s.reg[j] := by
  unfold State.setPulseByLine
  refine ⟨⟨s.scanLine_frame line w _, fun j => ?_⟩, fun j hj => ?_⟩
  · rw [State.getElem_reg_scanLine]
    split <;> rfl
  · rw [State.getElem_reg_scanLine, if_neg (by omega)]

/-- Everything an operation of the command port can do: it is a `REGISTER`, or it changes nothing but widths of valid
entries. -/
theorem effect_command_cases {i : Instr} (h : i.wellFormed = true) (s : State) :
    (∃ line, i = .register line) ∨
      (s.SameButWidths (effect i s) ∧
        ∀ j : ChannelIndex, s.count.val ≤ j.val → (effect i s).reg[j] = s.reg[j]) := by
  have same : s.SameButWidths s ∧ ∀ j : ChannelIndex, s.count.val ≤ j.val → s.reg[j] = s.reg[j] :=
    ⟨.refl s, fun _ _ => rfl⟩
  cases i
  case register line => exact .inl ⟨line, rfl⟩
  case setpulseId id w => exact .inr (s.setPulseById_widths id w)
  case setpulseLine line w => exact .inr (s.setPulseByLine_widths line w)
  case setangleId id deg =>
    refine .inr ?_
    simp only [effect, State.setAngleById]
    split
    · exact s.setPulseById_widths id _
    · exact same
  case setangleLine line deg =>
    refine .inr ?_
    simp only [effect, State.setAngleByLine]
    split
    · exact s.setPulseByLine_widths line _
    · exact same
  all_goals first | exact .inr same | exact absurd h (by simp [Instr.wellFormed, Instr.kind])

/-- Everything a command can do once a channel is registered: it leaves the timer, the cursor and `ARMED`, keeps the
lines of the entries it finds, and writes no level but the low one of a `REGISTER`. -/
theorem effect_command_of_registered {i : Instr} (hi : i.wellFormed = true) {s : State} (hc : 1 ≤ s.count.val) :
    effect i s =
        { s with
          reg := (effect i s).reg
          count := (effect i s).count
          dir := (effect i s).dir
          level := (effect i s).level
          rsp := (effect i s).rsp } ∧
      s.count.val ≤ (effect i s).count.val ∧
      (∀ j : ChannelIndex, j.val < s.count.val → ((effect i s).reg[j]).line = (s.reg[j]).line) ∧
      ∀ l : Line, (effect i s).level[l] = s.level[l] ∨ i = .register l ∧ (effect i s).level[l] = false := by
  rcases effect_command_cases hi s with ⟨line, rfl⟩ | ⟨h, -⟩
  · by_cases hr : s.count.val < 9
    · have e := s.register_of_room line (i := ⟨s.count.val, hr⟩) rfl
      simp only [if_neg (show ¬ s.count.val = 0 by omega)] at e
      simp only [effect, e]
      refine ⟨trivial, Nat.le_succ _, fun j hj => ?_, fun l => ?_⟩
      · have hne : s.count.val ≠ j.val := by omega
        simp [hne]
      · by_cases hl : l = line
        · subst hl
          exact .inr ⟨rfl, by simp⟩
        · have hne : line.val ≠ l.val := fun e => hl (Fin.ext e.symm)
          exact .inl (by simp [hne])
    · have e := s.register_of_full line (by have := s.count.isLt; omega)
      simp only [effect, e]
      exact ⟨trivial, Nat.le_refl _, fun _ _ => trivial, fun _ => .inl trivial⟩
  · obtain ⟨h1, h2⟩ := h
    generalize effect i s = t at *
    generalize t.reg = r at *
    subst h1
    exact ⟨rfl, Nat.le_refl _, fun j _ => h2 j, fun _ => .inl rfl⟩

/-- A command that leaves the registry as it is changes nothing but the response. -/
theorem effect_command_of_registry_kept {i : Instr} (hi : i.wellFormed = true) {s : State}
    (hr : (effect i s).reg = s.reg) (hc : (effect i s).count = s.count) :
    effect i s = { s with rsp := (effect i s).rsp } := by
  rcases effect_command_cases hi s with ⟨line, rfl⟩ | ⟨h, -⟩
  · by_cases h9 : s.count.val < 9
    · simp only [effect, s.register_of_room line (i := ⟨s.count.val, h9⟩) rfl] at hc
      exact absurd (congrArg Fin.val hc) (by simp)
    · simp only [effect, s.register_of_full line (by have := s.count.isLt; omega)]
  · have h1 := h.1
    rw [hr] at h1
    rw [h1]

/-- The decoder answers only operations of the command port. -/
theorem decode_wellFormed (w : CmdWord) : (decode w).wellFormed = true := by
  unfold decode
  split <;> rfl

/-- `Dispatch` changes `CURSOR`, `TCNT`, `OCR`, `LEVEL`, `CMF` and `cm_strobe` at most (R122). -/
theorem State.dispatch_frame (s : State) :
    s.dispatch =
      { s with
        cursor := s.dispatch.cursor
        tcnt := s.dispatch.tcnt
        ocr := s.dispatch.ocr
        level := s.dispatch.level
        cmf := s.dispatch.cmf
        cmStrobe := s.dispatch.cmStrobe } := by
  unfold State.dispatch
  split
  · rw [State.schedulerStep_frame]
    rfl
  · rfl

/-- What one clock cycle under the pins `p` does (R134), the configuration being well-formed. -/
def cycleEffect (p : CycleIn) (s : State) : State :=
  if p.rst then s.clearAll
  else
    let ticked := if p.tickEn then s.dropStrobes.tick else s.dropStrobes
    if p.cmdValid then effect (decode p.cmdWord) ticked.dispatch else ticked.dispatch

/-- The dispatch phase is `Dispatch`, which is its own guard. -/
theorem dispatchPhase_of_configured {s : State} (h : s.Configured) : dispatchPhase s = .next s.dispatch := by
  unfold dispatchPhase
  split
  · rw [exec_of_configured h]
    rfl
  · rename_i hd
    rw [State.dispatch, if_neg hd]

/-- In a well-formed configuration a clock cycle answers its effect. -/
theorem cycle_of_configured {s : State} (h : s.Configured) (p : CycleIn) :
    cycle p s = .next (cycleEffect p s) := by
  have hc : (!paramsWellFormed s.params) = false := by rw [h]; rfl
  have hs : s.dropStrobes.Configured := h
  unfold cycle cycleEffect
  rw [hc]
  simp only [Bool.false_eq_true, if_false]
  split
  · exact exec_of_configured h .reset
  · have ht : tickPhase p s.dropStrobes =
        .next (if p.tickEn then s.dropStrobes.tick else s.dropStrobes) := by
      unfold tickPhase
      split
      · rw [exec_of_configured hs]
        rfl
      · rfl
    have htc : State.Configured (if p.tickEn then s.dropStrobes.tick else s.dropStrobes) := by
      split
      · exact effect_configured hs .tick
      · exact hs
    rw [ht, andThen_next, dispatchPhase_of_configured htc, andThen_next]
    unfold commandPhase
    split
    · exact exec_of_configured (effect_configured htc .dispatch) _
    · rfl

/-- When a step answers a next state, and which. -/
theorem step_eq_next_iff {s t : State} :
    step s = .next t ↔ s.Configured ∧ t = cycleEffect s.pins s.takePins := by
  unfold step
  by_cases h : s.Configured
  · rw [cycle_of_configured (s := s.takePins) h]
    exact ⟨fun e => ⟨h, (Host.Outcome.next.inj e).symm⟩, fun e => by rw [e.2]⟩
  · have hc : paramsWellFormed s.params = false := by simpa using h
    simp [cycle, hc]

/-! ### The phases before the command, in a state that meets the invariants -/

/-- A cycle's tick, if any, that does not complete the distance to the threshold only counts. -/
theorem State.Inv.dispatch_of_short {s : State} (hi : s.Inv) (ha : s.armed = true) {b : Bool}
    (h : b.toNat < ticksUntil s.tcnt s.ocr) :
    (if b then s.tick else s).dispatch = { s with tcnt := s.tcnt + BitVec.ofNat 16 b.toNat } := by
  have hcmf := hi.cmf_clear
  cases b with
  | false =>
    have hd : s.dispatchEnabled = false := by simp [State.dispatchEnabled, hcmf]
    simp [State.dispatch, hd]
  | true =>
    have hne : ¬ (s.tcnt + 1#16 = s.ocr) := fun e => by
      have := (ticksUntil_eq_one_iff _ _).2 e
      simp at h
      omega
    simp only [if_true, State.tick_of_armed s ha]
    simp [State.dispatch, State.dispatchEnabled, hcmf, hne]

/-- The tick that completes the distance to the threshold runs one step, with `cm_strobe` raised. -/
theorem State.Inv.dispatch_of_last {s : State} (hi : s.Inv) (ha : s.armed = true)
    (h : ticksUntil s.tcnt s.ocr = 1) :
    s.tick.dispatch = State.schedulerStep { s with tcnt := s.tcnt + 1#16, cmStrobe := true } := by
  have hcmf := hi.cmf_clear
  have he := (ticksUntil_eq_one_iff _ _).1 h
  rw [State.tick_of_armed s ha]
  simp [State.dispatch, State.dispatchEnabled, hcmf, he, ha, State.enterInterrupt, State.clearPending]

/-- Once the open slot is closed, every line is low. -/
theorem State.Inv.level_closeSlot {s : State} (hi : s.Inv) (l : Line) : s.closeSlot.2.level[l] = false := by
  rw [← Bool.not_eq_true]
  intro e
  cases h : s.cursor with
  | none =>
    rw [State.closeSlot_of_none s h] at e
    obtain ⟨k, hk, -⟩ := hi.level_high l e
    exact absurd (h.symm.trans hk) (by simp)
  | some k =>
    rw [State.closeSlot_of_some s h, State.getElem_level_setLine] at e
    split at e
    · exact absurd e (by decide)
    · rename_i hne
      obtain ⟨k', hk, -, hl⟩ := hi.level_high l e
      obtain rfl := Option.some.inj (h.symm.trans hk)
      exact hne hl.symm

/-- A frame is longer than the slots of its channels. -/
theorem State.slotSum_lt_frameLength {s : State} (h : s.Configured) : s.slotSum s.count.val < s.frameLength := by
  simp only [State.Configured, paramsWellFormed, Bool.and_eq_true, decide_eq_true_eq] at h
  unfold State.frameLength
  simp only []
  split <;> omega

end Sys2Proof.Machine
end

