-- ==== Sys2Proof/Laws/PerInstr.lean ====
section
/-! SUPPORT. Per-operation family `Encodable`: an operation is well-formed for the command port exactly when it has a
command word (R54). -/

namespace Sys2Proof.Laws.Encodable

def Statement (i : Instr) : Prop := i.wellFormed = (encode i).isSome

theorem register (l : Line) : Statement (.register l) := rfl
theorem setpulseId (id : ChannelId) (t : Ticks) : Statement (.setpulseId id t) := rfl
theorem setpulseLine (l : Line) (t : Ticks) : Statement (.setpulseLine l t) := rfl
theorem setangleId (id : ChannelId) (a : Degrees) : Statement (.setangleId id a) := rfl
theorem setangleLine (l : Line) (a : Degrees) : Statement (.setangleLine l a) := rfl
theorem reserved0 : Statement (.reserved0) := rfl
theorem reserved6 : Statement (.reserved6) := rfl
theorem reserved7 : Statement (.reserved7) := rfl
theorem reserved8 : Statement (.reserved8) := rfl
theorem reserved9 : Statement (.reserved9) := rfl
theorem reservedA : Statement (.reservedA) := rfl
theorem reservedB : Statement (.reservedB) := rfl
theorem reservedC : Statement (.reservedC) := rfl
theorem reservedD : Statement (.reservedD) := rfl
theorem reservedE : Statement (.reservedE) := rfl
theorem reservedF : Statement (.reservedF) := rfl
theorem tick : Statement (.tick) := rfl
theorem dispatch : Statement (.dispatch) := rfl
theorem step : Statement (.step) := rfl
theorem reset : Statement (.reset) := rfl
theorem getCount : Statement (.getCount) := rfl
theorem setCount (t : Ticks) : Statement (.setCount t) := rfl
theorem armCompareMatch (t : Ticks) : Statement (.armCompareMatch t) := rfl
theorem onCompareMatch : Statement (.onCompareMatch) := rfl
theorem configureAsOutput (l : Line) : Statement (.configureAsOutput l) := rfl
theorem setLine (l : Line) (b : Bool) : Statement (.setLine l b) := rfl

end Sys2Proof.Laws.Encodable
end

