-- ==== Sys2Proof/Machine/Listing.lean ====
section
/-! DEFINITION. The listings of the spec (R60, R61): the text of a command line, and the clock cycles that each line
stands for. -/

namespace Sys2Proof.Machine

/-- The text of a command, operands in decimal (R60); events, micro-operations and reserved opcodes other than `NOP`
have none. -/
def commandText : Instr → Option String
  | .register l => some ("REGISTER " ++ toString l.val)
  | .setpulseId id t => some ("SETPULSE.ID " ++ toString id.toNat ++ ", " ++ toString t.toNat)
  | .setpulseLine l t => some ("SETPULSE.LINE " ++ toString l.val ++ ", " ++ toString t.toNat)
  | .setangleId id a => some ("SETANGLE.ID " ++ toString id.toNat ++ ", " ++ toString a.toNat)
  | .setangleLine l a => some ("SETANGLE.LINE " ++ toString l.val ++ ", " ++ toString a.toNat)
  | .reserved0 => some "NOP"
  | .reserved6 | .reserved7 | .reserved8 | .reserved9 | .reservedA
  | .reservedB | .reservedC | .reservedD | .reservedE | .reservedF => none
  | .tick | .dispatch | .step | .reset => none
  | .getCount | .setCount _ | .armCompareMatch _ | .onCompareMatch | .configureAsOutput _ | .setLine _ _ => none

/-- A line of a listing: a command (prefixed `T+` or not), or a pseudo-operation (R61). -/
inductive ListingLine where
  /-- A command, one cycle with `tick_en = 0`, or 1 where `withTick` (the prefix `T+`). -/
  | command (i : Instr) (withTick : Bool)
  /-- `TICK n`. -/
  | tick (n : Nat)
  /-- `IDLE n`. -/
  | idle (n : Nat)
  /-- `RESET`. -/
  | reset
  /-- `NOP`: the command word 0. -/
  | nop
deriving DecidableEq, Repr

/-- The clock cycles of a line (R61); a line whose operation has no command word stands for none. -/
def ListingLine.cycles : ListingLine → List CycleIn
  | .command i withTick =>
    match encode i with
    | some w => [if withTick then tickCommandCycle w else commandCycle w]
    | none => []
  | .tick n => List.replicate n tickCycle
  | .idle n => List.replicate n idleCycle
  | .reset => [resetCycle]
  | .nop => [commandCycle 0x00000000#32]

/-- The clock cycles of a listing, in order. -/
def listingCycles (ls : List ListingLine) : List CycleIn := ls.flatMap ListingLine.cycles

end Sys2Proof.Machine
end

