-- ==== Sys2Proof/Tests/Slice0.lean ====
section
/-! SUPPORT. The model's own tests. Expected results are the spec's: the rules' examples and the tables of
`spec/95_test_vectors.md`, named at each test; then a witness for the hypotheses of every obligation that has any. -/

namespace Sys2Proof.Tests

open Sys2Proof Sys2Proof.Machine

/-! ### Helpers -/

/-- The next state, if there is one. -/
def after (o : Host.Outcome State Fault Refusal) : Option State :=
  match o with
  | .next s => some s
  | _ => none

/-- "Config K" of 95_test_vectors.md. -/
def kParams : Params := { frameTicks := 1000 }

/-- The reset state of a configuration. -/
def resetWith (p : Params) : State := { State.reset with params := p, ocr := BitVec.ofNat 16 p.ocrReset }

/-- Entries `cs` on their lines, armed, at the cursor, count and threshold given. -/
def running (p : Params) (cs : List Channel) (cursor : Option ChannelIndex) (tcnt ocr : Ticks) : State :=
  { resetWith p with
    reg := cs.zipIdx.foldl (fun v c => v.setIfInBounds c.2 c.1) (Vector.replicate 9 ⟨0, 0#16⟩)
    count := Fin.ofNat 10 cs.length
    dir := cs.foldl (fun v c => v.set c.line true) (Vector.replicate 32 false)
    level :=
      match cursor.bind fun i => cs[i.val]? with
      | some c => (Vector.replicate 32 false).set c.line (c.width != 0#16)
      | none => Vector.replicate 32 false
    armed := true
    cursor := cursor
    tcnt := tcnt
    ocr := ocr }

/-- The channels of the source's §8 example. -/
def three : List Channel := [⟨0, 100#16⟩, ⟨1, 200#16⟩, ⟨2, 0#16⟩]

/-- The registry at the start of V-PULSE. -/
def vpulse : List Channel := [⟨5, 100#16⟩, ⟨12, 200#16⟩, ⟨5, 0#16⟩]

/-- Widths of the first three entries. -/
def widths (s : State) : List Nat := [s.reg[(0 : Fin 9)].width.toNat, s.reg[(1 : Fin 9)].width.toNat, s.reg[(2 : Fin 9)].width.toNat]

/-- The lines that are high, as the tables of 95_test_vectors.md list them. -/
def high (s : State) : List Nat := (s.level.toList.zipIdx.filter (·.1)).map (·.2)

/-- `CURSOR`, `TCNT`, `OCR` and the high lines, as those tables list them. -/
def view (s : State) : (Option ChannelIndex × Nat) × (Nat × List Nat) := ((s.cursor, s.tcnt.toNat), (s.ocr.toNat, high s))

/-! ### Well-formedness -/

theorem test_wf_accepts_a_command : (Instr.setangleLine 12 180#8).wellFormed = true := by decide
theorem test_wf_accepts_a_reserved_opcode : Instr.reserved0.wellFormed = true := by decide
theorem test_wf_refuses_an_event : Instr.tick.wellFormed = false := by decide
theorem test_wf_refuses_a_micro_operation : (Instr.setLine 3 true).wellFormed = false := by decide

theorem test_wf_accepts_the_defaults : paramsWellFormed {} = true := by decide
theorem test_wf_refuses_no_ticks : paramsWellFormed { kParams with tickHz := 0 } = false := by decide
theorem test_wf_refuses_guard_at_frame : paramsWellFormed { guardTicks := 20000 } = false := by decide
theorem test_wf_refuses_frame_beyond_counter : paramsWellFormed { frameTicks := 65536, ocrReset := 0 } = false := by decide
theorem test_wf_refuses_pulse_beyond_counter : paramsWellFormed { minPulseUs := 64536 } = false := by decide
theorem test_wf_refuses_no_lookahead : paramsWellFormed { lookaheadTicks := 0, zeroSlotTicks := 1 } = false := by decide
theorem test_wf_refuses_no_zero_slot : paramsWellFormed { zeroSlotTicks := 0 } = false := by decide
theorem test_wf_refuses_ocr_reset_beyond_counter : paramsWellFormed { ocrReset := 65536 } = false := by decide

/-! ### Decoding: one word per row, written bit by bit from its "encoding" in the opcode table -/

theorem test_decode_register : decode 0b0001_0000_0000_0101_0000_0000_0000_0000#32 = .register 5 := by decide
theorem test_decode_setpulse_id : decode 0b0010_0000_0000_0001_0000_0000_1100_1000#32 = .setpulseId 1 200 := by decide
theorem test_decode_setpulse_line : decode 0b0011_0000_0000_0101_0000_0101_1101_1100#32 = .setpulseLine 5 1500 := by decide
theorem test_decode_setangle_id : decode 0b0100_0000_0000_0010_0000_0000_0101_1010#32 = .setangleId 2 90 := by decide
theorem test_decode_setangle_line : decode 0b0101_0000_0000_1100_0000_0000_1011_0100#32 = .setangleLine 12 180 := by decide
theorem test_decode_reserved :
    [0x0#32, 0x6#32, 0x7#32, 0x8#32, 0x9#32, 0xA#32, 0xB#32, 0xC#32, 0xD#32, 0xE#32, 0xF#32].map
      (fun op : CmdWord => decode (op <<< 28 ||| 0x0123456#32)) =
    [.reserved0, .reserved6, .reserved7, .reserved8, .reserved9, .reservedA, .reservedB, .reservedC, .reservedD,
      .reservedE, .reservedF] := by decide
/-- V-ENC: reserved bits are ignored. -/
theorem test_decode_ignores_reserved_bits :
    decode 0x1FE5FFFF#32 = .register 5 ∧ decode 0x2F02FFFF#32 = .setpulseId 2 65535 ∧
    decode 0x30E505DC#32 = .setpulseLine 5 1500 ∧ decode 0x4002FF5A#32 = .setangleId 2 90 := by decide
/-- V-ENC: the largest line and the largest identifier. -/
theorem test_decode_largest_operands :
    decode 0x101F0000#32 = .register 31 ∧ decode 0x20FF01F4#32 = .setpulseId 255 500 := by decide
/-- R60: the worked example; R55: the all-zero word. -/
theorem test_encode_examples :
    encode (.setpulseId 1 200) = some 0x200100C8#32 ∧ encode (.setpulseLine (lineOfPin 0 5) 1500) = some 0x300505DC#32 ∧
    encode (.setangleLine (lineOfPin 1 4) 180) = some 0x500C00B4#32 ∧ encode (.register (lineOfPin 3 7)) = some 0x101F0000#32 ∧
    encode (.setangleId 2 90) = some 0x4002005A#32 ∧ encode .reserved0 = some 0#32 ∧ encode .tick = none := by decide
theorem test_decodeTableWord : decodeTableWord 32 0x200100C8 = some (.setpulseId 1 200) ∧ decodeTableWord 40 0 = none := by decide

/-- The match values of the table's rows with mask 0xF0000000 (all sixteen), each selected by its own row alone. -/
def tableMatches : List (BitVec 32) :=
  [0x10000000#32, 0x20000000#32, 0x30000000#32, 0x40000000#32, 0x50000000#32, 0x00000000#32, 0x60000000#32,
    0x70000000#32, 0x80000000#32, 0x90000000#32, 0xA0000000#32, 0xB0000000#32, 0xC0000000#32, 0xD0000000#32,
    0xE0000000#32, 0xF0000000#32]
theorem test_table_rows_are_disjoint : tableMatches.Pairwise (fun a b => a &&& 0xF0000000#32 ≠ b &&& 0xF0000000#32) := by decide

/-! ### Operands -/

/-- R93, the columns 1 MHz and 250 kHz. -/
theorem test_angle_table_1MHz :
    [0, 1, 2, 45, 89, 90, 91, 135, 179, 180].map (ticksOfAngle {}) =
      [1000, 1005, 1011, 1250, 1494, 1500, 1505, 1750, 1994, 2000] := by decide
theorem test_angle_table_250kHz :
    [0, 1, 2, 45, 89, 90, 91, 135, 179, 180].map (ticksOfAngle { tickHz := 250000 }) =
      [250, 251, 252, 312, 373, 375, 376, 437, 498, 500] := by decide

/-! ### Commands -/

/-- R75, the example: from reset, `REGISTER PA5`. -/
theorem test_register_from_reset :
    (after (exec (.register 5) State.reset)).map
      (fun t => ((t.rsp, t.count, t.reg[(0 : Fin 9)]), (t.dir[(5 : Line)], t.armed, t.ocr.toNat))) =
      some ((some 0#8, 1, ⟨5, 0#16⟩), (true, true, 20000)) := by decide
/-- R78, V-REG row 4: a duplicate registration cuts the pulse in progress. -/
theorem test_register_duplicate_cuts_pulse :
    (after (exec (.register 5) (running {} vpulse (some 0) 777#16 900#16))).map (fun t => (t.rsp, view t)) =
      some (some 3#8, ((some 0, 777), (900, []))) := by decide
/-- V-REG: the tenth registration. -/
theorem test_register_beyond_capacity :
    (after (exec (.register 21) (running {} (List.replicate 9 ⟨0, 0#16⟩) none 0#16 9#16))).map
      (fun t => (t.rsp, t.count, t.dir[(21 : Line)])) = some (some 0xFF#8, 9, false) := by decide
/-- V-PULSE rows 1 and 4. -/
theorem test_setpulse_id :
    (after (exec (.setpulseId 1 300) (running {} vpulse none 0#16 9#16))).map widths = some [100, 300, 0] ∧
    (after (exec (.setpulseId 3 1) (running {} vpulse none 0#16 9#16))).map widths = some [100, 200, 0] := by decide
/-- V-PULSE rows 6 and 8. -/
theorem test_setpulse_line :
    (after (exec (.setpulseLine 5 1500) (running {} vpulse none 0#16 9#16))).map widths = some [1500, 200, 1500] ∧
    (after (exec (.setpulseLine 6 900) (running {} vpulse none 0#16 9#16))).map widths = some [100, 200, 0] := by decide
/-- V-ANGLE: 179 and 181 degrees. -/
theorem test_setangle_id :
    (after (exec (.setangleId 1 179) (running {} vpulse none 0#16 9#16))).map widths = some [100, 1994, 0] ∧
    (after (exec (.setangleId 1 181) (running {} vpulse none 0#16 9#16))).map widths = some [100, 200, 0] := by decide
/-- V-ANGLE: 180 degrees on a duplicate line, and 2 MHz. -/
theorem test_setangle_line :
    (after (exec (.setangleLine 5 180) (running {} vpulse none 0#16 9#16))).map widths = some [2000, 200, 2000] ∧
    (after (exec (.setangleLine 12 91) (running { tickHz := 2000000 } vpulse none 0#16 9#16))).map widths =
      some [100, 3010, 0] := by decide
/-- R55. -/
theorem test_reserved_changes_nothing :
    after (exec .reserved0 State.reset) = some State.reset ∧ after (exec .reservedF State.reset) = some State.reset := by decide

/-! ### The timer and the lines: V-TICK -/

def timer (tcnt ocr : Ticks) : State := running {} three none tcnt ocr

theorem test_tick_matches :
    (after (exec .tick (timer 99 100))).map (fun t => (t.tcnt, t.ocr, t.cmf)) = some (100#16, 100#16, true) ∧
    (after (exec .tick (timer 100 100))).map (fun t => (t.tcnt, t.ocr, t.cmf)) = some (101#16, 100#16, false) := by decide
theorem test_tick_wraps :
    (after (exec .tick (timer 65535 0))).map (fun t => (t.tcnt, t.cmf)) = some (0#16, true) ∧
    (after (exec .tick (timer 65535 7))).map (fun t => (t.tcnt, t.cmf)) = some (0#16, false) := by decide
theorem test_getCount : (timer 300 1000).getCount = (300#16, timer 300 1000) := by decide
theorem test_setCount :
    (after (exec (.setCount 0) (timer 1000 1000))).map (fun t => (t.tcnt, t.ocr, t.cmf)) = some (0#16, 1000#16, false) := by decide
theorem test_armCompareMatch :
    (after (exec (.armCompareMatch 0) (timer 0 1000))).map (fun t => (t.tcnt, t.ocr, t.cmf)) = some (0#16, 0#16, false) := by decide
theorem test_onCompareMatch : (after (exec .onCompareMatch State.reset)).map (fun t => t.armed) = some true := by decide
/-- R70, R71, the examples. -/
theorem test_configureAsOutput : (after (exec (.configureAsOutput 5) State.reset)).map (fun t => (t.dir[(5 : Line)], t.level[(5 : Line)])) = some (true, false) := by decide
theorem test_setLine : (after (exec (.setLine 5 true) State.reset)).map (fun t => (high t, t.dir[(5 : Line)])) = some ([5], false) := by decide
/-- R73: 500 to 400 takes 65436 ticks, 0 to 0 a full wrap. -/
theorem test_ticksUntil : ticksUntil 500 400 = 65436 ∧ ticksUntil 0 0 = 65536 ∧ ticksUntil 100 300 = 200 := by decide

/-! ### The step: V-STEP -/

theorem test_step_rows_1_and_2 :
    (after (exec .step (running kParams three none 1000 1000))).map view = some ((some 0, 0), (100, [0])) ∧
    (after (exec .step (running kParams three (some 0) 100 100))).map view = some ((some 1, 100), (300, [1])) := by decide
theorem test_step_rows_3_and_4 :
    (after (exec .step (running kParams three (some 1) 300 300))).map view = some ((some 2, 300), (304, [])) ∧
    (after (exec .step (running kParams three (some 2) 304 304))).map view = some ((none, 304), (1000, [])) := by decide
/-- Row 6, the wrap of the threshold. -/
theorem test_step_row_6 :
    (after (exec .step (running kParams [⟨0, 100#16⟩, ⟨1, 65500#16⟩] (some 0) 100 100))).map view =
      some ((some 1, 100), (64, [1])) := by decide
/-- Rows 9, 10, 11 and 13, the frame tail. -/
theorem test_step_tail :
    [995#16, 996#16, 997#16, 1200#16].map
      (fun now => (after (exec .step (running kParams [⟨3, 9#16⟩] (some 0) now now))).map view) =
    [some ((none, 995), (1000, [])), some ((none, 996), (1000, [])), some ((none, 997), (1001, [])),
      some ((none, 1200), (1204, []))] := by decide
/-- R74 a: adjacent duplicate lines merge (P5, the step at 1100). -/
theorem test_step_adjacent_duplicates_merge :
    (after (exec .step (running kParams [⟨0, 100#16⟩, ⟨0, 30#16⟩] (some 0) 100 100))).map view =
      some ((some 1, 100), (130, [0])) := by decide
theorem test_dispatch_clears_pending :
    (after (exec .dispatch { running kParams three (some 0) 100 100 with cmf := true })).map
      (fun t => ((t.cmf, t.cmStrobe), view t)) = some ((false, true), ((some 1, 100), (300, [1]))) := by decide
theorem test_reset : (after (exec .reset (running kParams three (some 0) 100 100))) = some (resetWith kParams) := by decide

/-! ### The clock cycle: V-CYCLE -/

/-- Row 1: the step goes before the command. -/
theorem test_cycle_step_before_command :
    (after (step { running kParams [⟨0, 100#16⟩, ⟨1, 200#16⟩] (some 0) 99 100 with
        inputs := [tickCommandCycle 0x20010032#32] })).map (fun t => (view t, widths t)) =
      some (((some 1, 100), (300, [1])), [100, 50, 0]) := by decide
/-- Row 3: the arming `REGISTER` in a cycle with a tick. -/
theorem test_cycle_arming_ignores_its_tick :
    (after (step { State.reset with inputs := [tickCommandCycle 0x10000000#32] })).map
      (fun t => (t.armed, t.tcnt, t.count)) = some (true, 0#16, 1) := by decide
/-- Row 4: reset wins. -/
theorem test_cycle_reset_wins :
    (after (step { running kParams three (some 0) 99 100 with inputs := [⟨true, true, true, 0x10000000#32⟩] })).map
      (fun t => (t.count, t.ocr, t.rsp)) = some (0, 1000#16, none) := by decide
/-- Row 6: a duplicate registered in the cycle of its line's step. -/
theorem test_cycle_command_after_step_drives_low :
    (after (step { running kParams [⟨0, 100#16⟩] none 999 1000 with inputs := [tickCommandCycle 0x10000000#32] })).map
      (fun t => (view t, t.count)) = some (((some 0, 0), (100, [])), 2) := by decide
/-- `withFetchWord` makes the very next step run the command; the response stands for one cycle (R50). -/
theorem test_withFetchWord_runs_the_command :
    (after (step (State.reset.withFetchWord 32 0x10050000))).map (fun t => (t.rsp, t.rspId)) = some (some 0#8, 0#8) ∧
    (after (step { State.reset with rsp := some 7#8, inputs := [idleCycle] })).map (fun t => t.rspValid) = some false := by decide

/-- R60, R61: the worked example, and the opening lines of program P1. -/
theorem test_listing :
    commandText (.setpulseId 1 200) = some "SETPULSE.ID 1, 200" ∧
    listingCycles [.reset, .command (.register 1) false, .tick 2, .nop] =
      [resetCycle, commandCycle 0x10010000#32, tickCycle, tickCycle, commandCycle 0#32] := by decide

/-! ### Witnesses: states and operands that meet the hypotheses of each obligation -/

/-- One channel of two ticks on line 3, frame of ten ticks. -/
def tiny : Params := { frameTicks := 10, guardTicks := 1, lookaheadTicks := 1 }
def tinyTail : State := running tiny [⟨3, 2#16⟩] none 10 10
def tinyOpen : State := running tiny [⟨3, 2#16⟩] (some 0) 0 2

theorem witness_configured : State.reset.Configured ∧ tinyTail.Configured ∧ tinyOpen.Configured := by decide
theorem tinyTail_inv : tinyTail.Inv :=
  ⟨by decide, by decide, by decide, fun h => absurd h (by decide), by decide, by decide, rfl⟩
theorem tinyOpen_inv : tinyOpen.Inv :=
  ⟨by decide, by decide, by decide, fun h => absurd h (by decide), by decide, by decide, rfl⟩
/-- While armed, no invariant speaks of the count or of the coming inputs. -/
theorem inv_at {s : State} (h : s.Inv) (ha : s.armed = true) (n : Ticks) (ps : List CycleIn) :
    State.Inv { s with tcnt := n, inputs := ps } :=
  ⟨h.1, h.2, h.3, fun e => absurd (ha.symm.trans e) (by decide), h.5, h.6, h.7⟩
theorem reset_inv_witness : (resetWith tiny).Inv ∧ (resetWith tiny).Configured :=
  ⟨⟨by decide, by decide, by decide, fun _ => ⟨rfl, rfl, rfl, rfl, by decide⟩, by decide, by decide, rfl⟩, by decide⟩

theorem witness_ResetClearsEveryElement :
    let s := { tinyOpen with inputs := [⟨true, true, true, 0x10000000#32⟩] }
    s.Configured ∧ s.inputs = ⟨true, true, true, 0x10000000#32⟩ :: [] := by decide
theorem witness_IllFormedConfigurationIsRefused : ¬ (resetWith { zeroSlotTicks := 0 }).Configured := by decide
theorem witness_ConfigurationNeverChanges :
    exec .tick tinyOpen = .next { tinyOpen with tcnt := 1#16 } ∧
    ∃ t, step (tinyOpen.withFetchWord 32 0) = .next t := ⟨rfl, _, rfl⟩
theorem witness_RegisterAppendsAndResponds :
    (State.reset.Configured ∧ State.reset.count.val < 9) ∧
    (running {} (List.replicate 8 ⟨0, 0#16⟩) none 0 9).count.val = 8 ∧
    (running {} (List.replicate 9 ⟨0, 0#16⟩) none 0 9).count.val = 9 ∧
    (running {} (List.replicate 9 ⟨0, 0#16⟩) none 0 9).Configured := by decide
theorem witness_FirstRegistrationArms :
    State.reset.Configured ∧ State.reset.count.val = 0 ∧ tinyOpen.Configured ∧ 1 ≤ tinyOpen.count.val := by decide
theorem witness_IdentifiersCountUpFromZero : State.reset.Configured ∧ State.reset.count.val = 0 := by decide
theorem witness_OnlyResetUndoesRegistration :
    (Instr.setLine 3 false) ≠ .reset ∧ ∃ t, exec (.setLine 3 false) tinyOpen = .next t := ⟨by decide, _, rfl⟩
theorem witness_SetPulseByIdWritesOneWidth :
    tinyOpen.Configured ∧ (0#8 : ChannelId).toNat < tinyOpen.count.val ∧ tinyOpen.count.val ≤ (1#8 : ChannelId).toNat := by decide
theorem witness_SetPulseByLineWritesEveryMatch :
    tinyOpen.Configured ∧ ∀ j : ChannelIndex, j.val < tinyOpen.count.val → (tinyOpen.reg[j]).line ≠ 4 := by decide
theorem witness_SetAngleByIdStoresConvertedWidth :
    tinyOpen.Configured ∧ (180#8 : Degrees).toNat ≤ 180 ∧ (0#8 : ChannelId).toNat < tinyOpen.count.val ∧
    180 < (181#8 : Degrees).toNat ∧ tinyOpen.count.val ≤ (1#8 : ChannelId).toNat := by decide
theorem witness_SetAngleByLineStoresConvertedWidth :
    tinyOpen.Configured ∧ (180#8 : Degrees).toNat ≤ 180 ∧ 180 < (181#8 : Degrees).toNat := by decide
theorem witness_AnglesAboveRangeAreRejected : tinyOpen.Configured ∧ 180 < (181#8 : Degrees).toNat := by decide
theorem witness_AngleConversionIsMonotonic : 179 < 180 ∧ 180 ≤ 180 := by decide
theorem witness_WidthCommandsKeepThePulseInProgress :
    (∃ t, exec (.setpulseId 0 7) tinyOpen = .next t) ∧ (∃ t, exec (.setpulseLine 3 7) tinyOpen = .next t) ∧
    (∃ t, exec (.setangleId 0 7) tinyOpen = .next t) ∧ ∃ t, exec (.setangleLine 3 7) tinyOpen = .next t :=
  ⟨⟨_, rfl⟩, ⟨_, rfl⟩, ⟨_, rfl⟩, _, rfl⟩
theorem witness_ReservedOpcodesAreIgnored :
    let w : CmdWord := 0x60000001#32
    let s := { tinyOpen with inputs := [commandCycle w] }
    s.Configured ∧ 0x6#4 ≤ w.extractLsb' 28 4 ∧ s.inputs = commandCycle w :: [] ∧ s.cmf = false := by decide
theorem witness_DecodeSelectsByMaskAndMatch :
    0x1FE5FFFF#32 &&& 0xF0000000#32 = 0x10000000#32 ∧ 0x2F02FFFF#32 &&& 0xF0000000#32 = 0x20000000#32 ∧
    0x30E505DC#32 &&& 0xF0000000#32 = 0x30000000#32 ∧ 0x4002FF5A#32 &&& 0xF0000000#32 = 0x40000000#32 ∧
    0x500C00B4#32 &&& 0xF0000000#32 = 0x50000000#32 := by decide
theorem witness_ReservedBitsHaveNoEffect :
    0x1FE5FFFF#32 &&& significantBits (opField 0x1FE5FFFF#32) = 0x10050000#32 &&& significantBits (opField 0x1FE5FFFF#32) ∧
    encode (.register 5) = some 0x10050000#32 := by decide
theorem witness_DecodeInvertsEncode : (Instr.register 5).wellFormed = true ∧ Instr.step.wellFormed = false := by decide
theorem witness_TickCountsAndMatches :
    tinyOpen.Configured ∧ tinyOpen.armed = true ∧ State.reset.Configured ∧ State.reset.armed = false := by decide
theorem witness_TimerWritesKeepThePendingFlag : tinyOpen.Configured ∧ tinyOpen.armed = true ∧ tinyOpen.cmf = false := by decide
theorem witness_CallbackIsInstalledByArming :
    let s := { State.reset with inputs := [tickCommandCycle 0x10050000#32, tickCycle] }
    let u := { State.reset with inputs := [tickCycle] }
    s.Configured ∧ s.armed = false ∧ s.inputs = tickCommandCycle 0x10050000#32 :: [tickCycle] ∧
    u.Configured ∧ u.armed = false ∧ u.inputs = tickCycle :: [] := by decide
theorem witness_MatchComesAfterTicksUntil :
    tinyOpen.Configured ∧ tinyOpen.armed = true ∧ tinyOpen.cmf = false ∧ 1 < ticksUntil tinyOpen.tcnt tinyOpen.ocr := by decide
theorem witness_DispatchRunsOneStep :
    let s := { tinyOpen with cmf := true }
    s.Configured ∧ s.cmf = true ∧ s.armed = true := by decide
theorem witness_DispatchNotEnabledChangesNothing :
    tinyOpen.Configured ∧ tinyOpen.cmf = false ∧ State.reset.Configured ∧ State.reset.armed = false := by decide
theorem witness_StepStartsFrame :
    tinyTail.Configured ∧ tinyTail.cursor = none ∧ 1 ≤ tinyTail.count.val ∧
    (tinyTail.reg[(0 : ChannelIndex)]).width ≠ 0#16 := by decide
/-- At a frame start with a pulse and with a skipped slot, and after channels 0 and 1. -/
theorem witness_StepServesNextChannel :
    let a := running kParams three none 1000 1000
    let b := running kParams [⟨3, 0#16⟩] none 1000 1000
    let s := running kParams three (some 0) 100 100
    let u := running kParams three (some 1) 300 300
    a.Configured ∧ a.cursor = none ∧ 0 < a.count.val ∧ (a.reg[(0 : ChannelIndex)]).width ≠ 0#16 ∧
    b.Configured ∧ b.cursor = none ∧ 0 < b.count.val ∧ (b.reg[(0 : ChannelIndex)]).width = 0#16 ∧
    s.Configured ∧ s.cursor = some 0 ∧ (1 : ChannelIndex).val = (0 : ChannelIndex).val + 1 ∧
    (1 : ChannelIndex).val < s.count.val ∧ (s.reg[(1 : ChannelIndex)]).width ≠ 0#16 ∧
    u.Configured ∧ u.cursor = some 1 ∧ (2 : ChannelIndex).val < u.count.val ∧
    (u.reg[(2 : ChannelIndex)]).width = 0#16 := by decide
theorem witness_StepEntersFrameTail :
    tinyOpen.Configured ∧ tinyOpen.cursor = some 0 ∧ tinyOpen.count.val ≤ (0 : ChannelIndex).val + 1 := by decide
theorem witness_StepClosesTheOpenSlot : tinyOpen.Configured ∧ tinyOpen.cursor = some 0 := by decide
theorem witness_StepWithEmptyRegistry :
    State.reset.Configured ∧ State.reset.cursor = none ∧ State.reset.count.val = 0 := by decide
theorem witness_StepArmsStrictlyAhead : ∃ t, exec .step tinyTail = .next t := ⟨_, rfl⟩
theorem witness_SchedulerNeverWritesTheRegistry :
    (∃ t, exec .tick tinyOpen = .next t) ∧ (∃ t, exec .dispatch { tinyOpen with cmf := true } = .next t) ∧
    ∃ t, exec .step tinyOpen = .next t := ⟨⟨_, rfl⟩, ⟨_, rfl⟩, _, rfl⟩
theorem witness_CommandsNeitherReadNorWriteTheCursor :
    (Instr.register 4).wellFormed = true ∧ ∃ t, exec (.register 4) tinyOpen = .next t := ⟨by decide, _, rfl⟩
theorem witness_DirAndLevelAreNeverRead : ∃ t, exec .step tinyOpen = .next t := ⟨_, rfl⟩
theorem witness_StepRunsTheDecodedCommand :
    let s := { tinyOpen with inputs := [commandCycle 0x10050000#32] }
    s.Configured ∧ s.cmf = false ∧ encode (.register 5) = some 0x10050000#32 ∧
    s.inputs = commandCycle 0x10050000#32 :: [] := by decide
theorem witness_CycleOrdersTickDispatchExec :
    let s := { tinyOpen with inputs := [tickCommandCycle 0x10050000#32] }
    let u := { tinyOpen with inputs := [resetCycle] }
    s.Configured ∧ s.inputs = tickCommandCycle 0x10050000#32 :: [] ∧ u.Configured ∧ u.inputs = resetCycle :: [] := by decide
theorem witness_IdleCycleChangesNothing :
    let s := { tinyOpen with inputs := [idleCycle] }
    s.Configured ∧ s.cmf = false ∧ s.inputs = idleCycle :: [] := by decide
theorem witness_OnlyRegisterResponds :
    (∃ t, step (tinyOpen.withFetchWord 32 0x10050000) = .next t) ∧
    (tinyOpen.withFetchWord 32 0x10050000).pins.rst = false ∧
    (tinyOpen.withFetchWord 32 0x10050000).pins.cmdValid = true ∧
    decode (tinyOpen.withFetchWord 32 0x10050000).pins.cmdWord = .register 5 ∧
    (∃ t, step (tinyOpen.withFetchWord 32 0) = .next t) ∧
    ∀ l, decode (tinyOpen.withFetchWord 32 0).pins.cmdWord ≠ .register l :=
  ⟨⟨_, rfl⟩, rfl, rfl, rfl, ⟨_, rfl⟩, by decide⟩
theorem witness_StrobeFollowsDispatch :
    ∃ t, step { tinyOpen with tcnt := 1#16, inputs := [tickCycle] } = .next t ∧ t.cmStrobe = true := ⟨_, rfl, rfl⟩
theorem witness_RegisterAfterStepLeavesTheLineLow :
    let s := { tinyTail with tcnt := 9#16, inputs := [tickCommandCycle 0x10030000#32] }
    s.Configured ∧ s.count.val < 9 ∧ s.inputs = tickCommandCycle 0x10030000#32 :: [] ∧
    decode 0x10030000#32 = .register 3 := by decide
theorem witness_InertBeforeRegistration :
    let s := { resetWith tiny with inputs := [tickCommandCycle 0x20000001#32] }
    s.Configured ∧ s.count.val = 0 ∧ s.inputs = tickCommandCycle 0x20000001#32 :: [] ∧
    ∀ l, decode 0x20000001#32 ≠ .register l := by decide
theorem witness_EveryCycleKeepsInvariants :
    tinyOpen.Inv ∧ ∃ t, step (tinyOpen.withFetchWord 32 0x10030000) = .next t := ⟨tinyOpen_inv, _, rfl⟩
theorem witness_AtMostOneLineIsEverHigh :
    tinyOpen.Inv ∧ runCycles 0 tinyOpen = .next tinyOpen ∧ tinyOpen.level[(3 : Line)] = true :=
  ⟨tinyOpen_inv, rfl, by decide⟩
theorem witness_NextStepComesExactlyWhenArmed :
    let ps := [tickCommandCycle 0x10050000#32]
    let s := { tinyOpen with inputs := ps ++ [tickCycle] }
    s.Inv ∧ s.Configured ∧ s.armed = true ∧ s.inputs = ps ++ [tickCycle] ∧ (∀ p ∈ ps, p.rst = false) ∧
    ps.countP (·.tickEn) < ticksUntil s.tcnt s.ocr ∧ ps.countP (·.tickEn) + 1 = ticksUntil s.tcnt s.ocr :=
  ⟨inv_at tinyOpen_inv rfl _ _, by decide⟩
/-- The closing cycle carries a command of its own. -/
theorem witness_PulseIsExactlyAsWideAsStored :
    let ps := [tickCommandCycle 0x10050000#32]
    let p := tickCommandCycle 0x10060000#32
    let s := { tinyTail with inputs := ps ++ p :: [] }
    s.Inv ∧ s.armed = true ∧ ∃ t, exec .step s = .next t ∧ t.cursor = some 0 ∧
      (t.reg[(0 : ChannelIndex)]).width ≠ 0#16 ∧ t.inputs = ps ++ p :: [] ∧
      (∀ q ∈ ps, q.rst = false ∧ (q.cmdValid = true → decode q.cmdWord ≠ .register (t.reg[(0 : ChannelIndex)]).line)) ∧
      ps.countP (·.tickEn) < (t.reg[(0 : ChannelIndex)]).width.toNat ∧
      ps.countP (·.tickEn) + 1 = (t.reg[(0 : ChannelIndex)]).width.toNat ∧
      decode p.cmdWord ≠ .register (t.reg[(0 : ChannelIndex)]).line :=
  ⟨⟨by decide, by decide, by decide, fun h => absurd h (by decide), by decide, by decide, rfl⟩, rfl, _, rfl,
    by decide, by decide, by decide, by decide, by decide, by decide, by decide⟩
theorem witness_FirstStepComesAfterOcrResetTicks :
    let ps := List.replicate 9 tickCycle
    let p := tickCommandCycle 0x10060000#32
    let s := { resetWith tiny with inputs := ⟨false, true, true, 0x10050000#32⟩ :: (ps ++ p :: []) }
    s.Configured ∧ s.count.val = 0 ∧ decode 0x10050000#32 = .register 5 ∧
    (∀ q ∈ ps, q.rst = false) ∧ p.rst = false ∧ p.tickEn = true ∧
    ps.countP (·.tickEn) + 1 = (if (s.params.ocrReset : Nat) = 0 then 2 ^ 16 else s.params.ocrReset) := by decide
/-- The branch `OCR_RESET = 0`: the first step comes with the 65536th tick. -/
theorem witness_FirstStepComesAfterOcrResetTicks_zero :
    let s := resetWith { tiny with ocrReset := 0 }
    s.Configured ∧ s.Inv ∧ s.count.val = 0 ∧ (∀ q ∈ List.replicate 65535 tickCycle, q.rst = false) ∧
    (List.replicate 65535 tickCycle).countP (·.tickEn) + 1 =
      (if (s.params.ocrReset : Nat) = 0 then 2 ^ 16 else s.params.ocrReset) :=
  ⟨by decide, ⟨by decide, by decide, by decide, fun _ => ⟨rfl, rfl, rfl, rfl, by decide⟩, by decide, by decide, rfl⟩,
    rfl, fun q h => (List.mem_replicate.1 h).2 ▸ rfl, by rw [List.countP_replicate]; rfl⟩
theorem witness_FramePeriodIsExact :
    let s := { tinyTail with inputs := List.replicate 10 tickCycle ++ [] }
    s.armed = true ∧ s.cursor = none ∧ ∃ t, exec .step s = .next t ∧
      t.slotSum t.count.val + t.params.lookaheadTicks < 2 ^ 16 ∧ t.frameLength = t.params.frameTicks ∧
      t.inputs = List.replicate t.frameLength tickCycle ++ [] :=
  ⟨by decide, by decide, _, rfl, by decide, by decide, by decide⟩
/-- The overrun: a pulse of 12 ticks in a frame of 10, look-ahead 1, makes a frame of 13. -/
theorem witness_FramePeriodIsExact_overrun :
    let s := { running tiny [⟨3, 12#16⟩] none 10 10 with inputs := List.replicate 13 tickCycle ++ [] }
    s.Inv ∧ s.armed = true ∧ s.cursor = none ∧ ∃ t, exec .step s = .next t ∧
      t.slotSum t.count.val + t.params.lookaheadTicks < 2 ^ 16 ∧ t.frameLength = 13 ∧
      t.inputs = List.replicate t.frameLength tickCycle ++ [] :=
  ⟨⟨by decide, by decide, by decide, fun h => absurd h (by decide), by decide, by decide, rfl⟩, rfl, rfl, _, rfl,
    by decide, by decide, by decide⟩
/-- Short of the threshold, with a tick and a command; and with the last tick. -/
theorem witness_CycleShortOfTheThresholdRunsNoStep :
    let s := { tinyOpen with inputs := [tickCommandCycle 0x10050000#32] }
    let u := { tinyOpen with tcnt := 1#16, inputs := [tickCommandCycle 0x10050000#32] }
    s.Inv ∧ s.Awaits (some 0) 2#16 2 ∧ s.pins.rst = false ∧ s.pins.tickEn.toNat < 2 ∧ (∃ t, step s = .next t) ∧
    u.Inv ∧ u.Awaits (some 0) 2#16 1 ∧ u.pins.tickEn.toNat = 1 ∧ ∃ t, step u = .next t ∧ t.cmStrobe = true :=
  ⟨inv_at tinyOpen_inv rfl _ _, ⟨rfl, rfl, rfl, by decide⟩, rfl, by decide, ⟨_, rfl⟩, inv_at tinyOpen_inv rfl _ _,
    ⟨rfl, rfl, rfl, by decide⟩, rfl, _, rfl, rfl⟩
theorem witness_PulseStaysOpenUntilItsLastTick :
    let s := { tinyOpen with inputs := [tickCommandCycle 0x10050000#32] }
    (tinyTail.Inv ∧ tinyTail.armed = true ∧ ∃ t, exec .step tinyTail = .next t ∧ t.cursor = some 0 ∧
      (t.reg[(0 : ChannelIndex)]).width ≠ 0#16) ∧
    s.Inv ∧ s.OpenPulse 0 3 2 ∧ s.pins.rst = false ∧ decode s.pins.cmdWord ≠ .register 3 ∧ s.pins.tickEn.toNat < 2 ∧
    ∃ t, step s = .next t :=
  ⟨⟨tinyTail_inv, rfl, _, rfl, by decide, by decide⟩, inv_at tinyOpen_inv rfl _ _,
    ⟨⟨rfl, rfl, rfl, by decide⟩, rfl, by decide⟩, rfl, by decide, by decide, _, rfl⟩
/-- A cycle with a tick and a width command that hits no channel, in the open slot, in the frame tail, and at the end of
the frame. -/
theorem witness_EveryCycleKeepsTheFrameSchedule :
    let p := tickCommandCycle 0x20050001#32
    let s := { tinyOpen with inputs := [p] }
    let u := { tinyTail with tcnt := 5#16, inputs := [p] }
    let w := { tinyTail with tcnt := 9#16, inputs := [p] }
    (tinyTail.Inv ∧ tinyTail.armed = true ∧ tinyTail.cursor = none ∧ ∃ t, exec .step tinyTail = .next t ∧
      t.slotSum t.count.val + t.params.lookaheadTicks < 2 ^ 16) ∧
    (s.Inv ∧ s.OnSchedule ∧ ∃ t, step s = .next t ∧ t.reg = s.reg ∧ t.count = s.count) ∧
    (u.Inv ∧ u.OnSchedule ∧ ∃ t, step u = .next t ∧ t.reg = u.reg ∧ t.count = u.count) ∧
    (w.Inv ∧ w.OnSchedule ∧ w.tcnt.toNat + w.pins.tickEn.toNat = w.frameLength ∧
      ∃ t, step w = .next t ∧ t.reg = w.reg ∧ t.count = w.count ∧ t.tcnt = 0#16) :=
  ⟨⟨tinyTail_inv, rfl, rfl, _, rfl, by decide⟩,
    ⟨inv_at tinyOpen_inv rfl _ _, ⟨rfl, by decide, by decide, by decide, by decide, by decide⟩, _, rfl, rfl, rfl⟩,
    ⟨inv_at tinyTail_inv rfl _ _, ⟨rfl, by decide, by decide, by decide, by decide, by decide⟩, _, rfl, rfl, rfl⟩,
    ⟨inv_at tinyTail_inv rfl _ _, ⟨rfl, by decide, by decide, by decide, by decide, by decide⟩, by decide,
      _, rfl, rfl, rfl, rfl⟩⟩

end Sys2Proof.Tests
end

section
/-! The scope of the model (R7, R8): which configurations have a meaning, and that the others have none. -/

namespace Sys2Proof.Machine

/-- The check of the configuration, as the constraints of R7, the longest pulse written out by R88. -/
theorem paramsWellFormed_iff (p : Params) :
    paramsWellFormed p = true ↔
      1 ≤ p.tickHz ∧ p.guardTicks < p.frameTicks ∧ p.frameTicks < 2 ^ 16 ∧
      (p.minPulseUs + 1000) * p.tickHz / 1000000 < 2 ^ 16 ∧
      1 ≤ p.lookaheadTicks ∧ 1 ≤ p.zeroSlotTicks ∧ p.ocrReset < 2 ^ 16 := by
  simp only [paramsWellFormed, Bool.and_eq_true, decide_eq_true_eq, and_assoc]
  rfl

/-- An ill-formed configuration gives no operation a meaning (R8). -/
theorem exec_of_not_configured {s : State} (h : ¬ s.Configured) (i : Instr) :
    exec i s = .refused .illFormedConfiguration := by
  rw [exec_eq_whenConfigured, whenConfigured_of_not_configured h]

/-- An ill-formed configuration gives no clock cycle a meaning, whatever its pins, `rst` included (R8). -/
theorem cycle_of_not_configured {s : State} (h : ¬ s.Configured) (p : CycleIn) :
    cycle p s = .refused .illFormedConfiguration := by
  have hc : paramsWellFormed s.params = false := Bool.eq_false_of_not_eq_true h
  rw [cycle, hc]
  rfl

/-- Taking the pins keeps the configuration, so the cycle of an ill-formed one is refused under any inputs. -/
theorem step_of_not_configured {s : State} (h : ¬ s.Configured) : step s = .refused .illFormedConfiguration :=
  cycle_of_not_configured (s := s.takePins) h s.pins

/-- Settles O3: the check is the constraints of R7, and the operations and the cycle are refused without it. -/
theorem illFormedConfigurationIsRefused : Obligations.IllFormedConfigurationIsRefused :=
  ⟨paramsWellFormed_iff, fun _ h => ⟨step_of_not_configured h, exec_of_not_configured h⟩⟩

end Sys2Proof.Machine
end

section
/-! The state at reset (R32), and what only reset undoes: every other operation keeps the registrations (R33). -/

namespace Sys2Proof.Machine

/-- Settles O1: each element is read off the reset state, the entries of its three vectors as those of a replicate. -/
theorem resetStateHoldsResetValues : Obligations.ResetStateHoldsResetValues :=
  ⟨rfl, rfl, rfl, rfl, fun i => Vector.getElem_replicate i.isLt, rfl, rfl, rfl, rfl,
    fun l => Vector.getElem_replicate l.isLt, fun l => Vector.getElem_replicate l.isLt, rfl⟩

/-- `t` has every registration of `s`: the relation between the states before and after a transition that R33 states. -/
structure State.KeepsRegistrations (s t : State) : Prop where
  count_le : s.count.val ≤ t.count.val
  armed_stays : s.armed = true → t.armed = true
  dir_stays : ∀ l : Line, s.dir[l] = true → t.dir[l] = true
  line_eq : ∀ j : ChannelIndex, j.val < s.count.val → (t.reg[j]).line = (s.reg[j]).line

namespace State

/-- A transition that writes neither the registry nor `ARMED` nor `DIR` keeps the registrations. -/
theorem KeepsRegistrations.of_eq {s t : State} (hreg : t.reg = s.reg) (hcount : t.count = s.count)
    (harmed : t.armed = s.armed) (hdir : t.dir = s.dir) : s.KeepsRegistrations t where
  count_le := by rw [hcount]
  armed_stays := by rw [harmed]; exact id
  dir_stays := by rw [hdir]; exact fun _ => id
  line_eq := by rw [hreg]; exact fun _ _ => rfl

theorem SameButWidths.keepsRegistrations {s t : State} (h : s.SameButWidths t) : s.KeepsRegistrations t := by
  obtain ⟨hframe, hline⟩ := h
  rw [hframe]
  exact ⟨le_rfl, id, fun _ => id, fun j _ => hline j⟩

variable (s : State)

theorem keepsRegistrations_configureAsOutput (l : Line) : s.KeepsRegistrations (s.configureAsOutput l) where
  count_le := le_rfl
  armed_stays := id
  dir_stays m hm := by rw [getElem_dir_configureAsOutput, hm, ite_self]
  line_eq _ _ := rfl

/-- `REGISTER` writes no entry below `COUNT`, and `ARMED` and `DIR` only to 1 (R75). -/
theorem keepsRegistrations_register (line : Line) : s.KeepsRegistrations (s.register line) := by
  by_cases hroom : s.count.val < 9
  · rw [s.register_of_room line (i := ⟨s.count.val, hroom⟩) rfl]
    refine ⟨Nat.le_succ _, fun ha => ?_, (s.keepsRegistrations_configureAsOutput line).dir_stays, fun j hj => ?_⟩
    · simp only [ha, ite_self]
    · have hne : s.count.val ≠ j.val := by omega
      simp [hne]
  · rw [s.register_of_full line (by have := s.count.isLt; omega)]
    exact .of_eq rfl rfl rfl rfl

theorem keepsRegistrations_tick : s.KeepsRegistrations s.tick := by
  cases ha : s.armed with
  | true => rw [s.tick_of_armed ha]; exact .of_eq rfl rfl rfl rfl
  | false => rw [s.tick_of_not_armed ha]; exact .of_eq rfl rfl rfl rfl

theorem keepsRegistrations_schedulerStep : s.KeepsRegistrations s.schedulerStep := by
  rw [schedulerStep_frame]
  exact .of_eq rfl rfl rfl rfl

theorem keepsRegistrations_dispatch : s.KeepsRegistrations s.dispatch := by
  rw [dispatch_frame]
  exact .of_eq rfl rfl rfl rfl

end State

/-- Every operation but reset keeps the registrations: a command is a `REGISTER` or writes widths only, and of the
events and micro-operations none writes the registry, and `ARMED` and `DIR` are only ever set. -/
theorem effect_keepsRegistrations {i : Instr} (hi : i ≠ .reset) (s : State) :
    s.KeepsRegistrations (effect i s) := by
  by_cases hw : i.wellFormed = true
  · rcases effect_command_cases hw s with ⟨line, rfl⟩ | ⟨hwidths, -⟩
    · exact s.keepsRegistrations_register line
    · exact hwidths.keepsRegistrations
  · cases i with
    | reset => exact absurd rfl hi
    | tick => exact s.keepsRegistrations_tick
    | dispatch => exact s.keepsRegistrations_dispatch
    | step => exact s.keepsRegistrations_schedulerStep
    | getCount | setCount _ | armCompareMatch _ | setLine _ _ => exact .of_eq rfl rfl rfl rfl
    | onCompareMatch => exact ⟨le_rfl, fun _ => rfl, fun _ => id, fun _ _ => rfl⟩
    | configureAsOutput l => exact s.keepsRegistrations_configureAsOutput l
    | _ => exact absurd rfl hw

/-- Settles O9: the next state of an operation is its effect, which keeps the registrations. -/
theorem onlyResetUndoesRegistration : Obligations.OnlyResetUndoesRegistration := by
  intro i s t hi hexec
  obtain ⟨-, rfl⟩ := exec_eq_next_iff.1 hexec
  have h := effect_keepsRegistrations hi s
  exact ⟨h.count_le, h.armed_stays, h.dir_stays, h.line_eq⟩

end Sys2Proof.Machine
end

section
/-! The command word (R51 to R56): which words a format groups together, what the decoder reads of a word, and where the
encoder writes. A format has a field when its significant bits cover it. -/

namespace Sys2Proof

open Machine

/-- Words that agree under a mask agree on every field that the mask covers. -/
theorem extractLsb'_eq_of_and_eq {w v m : CmdWord} {lo n : Nat} (h : w &&& m = v &&& m)
    (hcov : m.extractLsb' lo n = BitVec.allOnes n) : w.extractLsb' lo n = v.extractLsb' lo n := by
  simpa only [BitVec.extractLsb'_and, hcov, BitVec.and_allOnes] using congrArg (BitVec.extractLsb' lo n) h

theorem opField_eq_of_and_eq {w v m : CmdWord} (h : w &&& m = v &&& m)
    (hcov : m.extractLsb' 28 4 = BitVec.allOnes 4) : opField w = opField v :=
  congrArg BitVec.toFin (extractLsb'_eq_of_and_eq h hcov)

/-! ### The decoder, by opcode -/

section

variable {w : CmdWord}

theorem decode_of_opField_eq_one (h : opField w = 1) : decode w = .register (lineField w) := by
  simp only [decode, h]

theorem decode_of_opField_eq_two (h : opField w = 2) : decode w = .setpulseId (idField w) (ticksField w) := by
  simp only [decode, h]

theorem decode_of_opField_eq_three (h : opField w = 3) : decode w = .setpulseLine (lineField w) (ticksField w) := by
  simp only [decode, h]

theorem decode_of_opField_eq_four (h : opField w = 4) : decode w = .setangleId (idField w) (angleField w) := by
  simp only [decode, h]

theorem decode_of_opField_eq_five (h : opField w = 5) : decode w = .setangleLine (lineField w) (angleField w) := by
  simp only [decode, h]

end

/-- Only the opcode decides whether a word is a command or reserved (R53, R55). -/
theorem kind_decode (w : CmdWord) :
    (decode w).kind = if 1 ≤ opField w ∧ opField w ≤ 5 then .command else .reserved := by
  unfold decode
  generalize opField w = op
  fin_cases op <;> rfl

/-- The decoder reads the opcode, and of the operand fields those of the opcode's format only (R51). -/
theorem decode_congr {w v : CmdWord} (hop : opField w = opField v)
    (hline : opField w ∈ [1, 3, 5] → lineField w = lineField v)
    (hid : opField w ∈ [2, 4] → idField w = idField v)
    (hticks : opField w ∈ [2, 3] → ticksField w = ticksField v)
    (hangle : opField w ∈ [4, 5] → angleField w = angleField v) : decode w = decode v := by
  unfold decode
  rw [← hop]
  generalize opField w = op at *
  split
  case h_2 => rw [hline (by decide)]
  case h_3 => rw [hid (by decide), hticks (by decide)]
  case h_4 => rw [hline (by decide), hticks (by decide)]
  case h_5 => rw [hid (by decide), hangle (by decide)]
  case h_6 => rw [hline (by decide), hangle (by decide)]
  all_goals rfl

/-- Every format has the opcode, and its significant bits cover the operand fields that its command has (R51). -/
theorem significantBits_cover :
    (∀ op, (significantBits op).extractLsb' 28 4 = BitVec.allOnes 4) ∧
    (∀ op ∈ [1, 3, 5], (significantBits op).extractLsb' 16 5 = BitVec.allOnes 5) ∧
    (∀ op ∈ [2, 4], (significantBits op).extractLsb' 16 8 = BitVec.allOnes 8) ∧
    (∀ op ∈ [2, 3], (significantBits op).extractLsb' 0 16 = BitVec.allOnes 16) ∧
    (∀ op ∈ [4, 5], (significantBits op).extractLsb' 0 8 = BitVec.allOnes 8) := by
  decide

/-- Words that agree on the significant bits of one's format are the same operation (R56). -/
theorem decode_eq_of_and_significantBits_eq {w v : CmdWord}
    (h : w &&& significantBits (opField w) = v &&& significantBits (opField w)) : decode w = decode v := by
  obtain ⟨hop, hline, hid, hticks, hangle⟩ := significantBits_cover
  exact decode_congr (opField_eq_of_and_eq h (hop _))
    (fun hm => congrArg BitVec.toFin (extractLsb'_eq_of_and_eq h (hline _ hm)))
    (fun hm => extractLsb'_eq_of_and_eq h (hid _ hm))
    (fun hm => extractLsb'_eq_of_and_eq h (hticks _ hm))
    (fun hm => extractLsb'_eq_of_and_eq h (hangle _ hm))

/-! ### What the encoder writes -/

/-- A field that a mask covers has no bit outside the mask. -/
theorem fieldAt_and_not_eq_zero {n lo : Nat} {m : CmdWord} (v : BitVec n)
    (hcov : m.extractLsb' lo n = BitVec.allOnes n) : fieldAt v lo &&& ~~~m = 0#32 := by
  apply BitVec.eq_of_getLsbD_eq
  intro i hi
  by_cases hin : lo ≤ i ∧ i - lo < n
  · have hbit : m.getLsbD i = true := by
      simpa [hin.2, Nat.add_sub_cancel' hin.1] using congrArg (BitVec.getLsbD · (i - lo)) hcov
    simp [hbit]
  · have hout : i < lo ∨ v.getLsbD (i - lo) = false := by
      by_cases hlt : i < lo
      · exact .inl hlt
      · exact .inr (BitVec.getLsbD_of_ge v _ (by omega))
    rcases hout with h | h <;> simp [fieldAt, h]

/-- `w` is a word of opcode `op` whose reserved bits are 0. -/
structure CleanWord (op : BitVec 4) (w : CmdWord) : Prop where
  opField_eq : opField w = op.toFin
  reserved_eq : w &&& ~~~significantBits op.toFin = 0#32

theorem CleanWord.opcode (op : BitVec 4) : CleanWord op (fieldAt op 28) where
  opField_eq := congrArg BitVec.toFin (extractLsb'_fieldAt_self op 28 (by decide))
  reserved_eq := fieldAt_and_not_eq_zero op (significantBits_cover.1 _)

/-- Writing a further operand of the format keeps the opcode and the zeros. -/
theorem CleanWord.or_fieldAt {op : BitVec 4} {w : CmdWord} (h : CleanWord op w) {n : Nat} (v : BitVec n) (lo : Nat)
    (hlo : lo + n ≤ 28 := by decide)
    (hcov : (significantBits op.toFin).extractLsb' lo n = BitVec.allOnes n := by decide) :
    CleanWord op (w ||| fieldAt v lo) where
  opField_eq := by
    rw [← h.opField_eq, opField, opField, extractLsb'_or, extractLsb'_fieldAt_disjoint v lo 28 4 (.inl hlo),
      BitVec.or_zero]
  reserved_eq := by
    rw [BitVec.and_or_distrib_right, h.reserved_eq, fieldAt_and_not_eq_zero v hcov, BitVec.or_zero]

/-- Every word the encoder writes has its opcode's reserved bits 0 (R56). -/
theorem cleanWord_of_encode_eq_some {i : Instr} {w : CmdWord} (h : encode i = some w) : ∃ op, CleanWord op w := by
  cases i with
  | register l =>
    obtain rfl := Option.some.inj h
    exact ⟨_, (CleanWord.opcode 0x1#4).or_fieldAt (lineBits l) 16⟩
  | setpulseId id t =>
    obtain rfl := Option.some.inj h
    exact ⟨_, ((CleanWord.opcode 0x2#4).or_fieldAt id 16).or_fieldAt t 0⟩
  | setpulseLine l t =>
    obtain rfl := Option.some.inj h
    exact ⟨_, ((CleanWord.opcode 0x3#4).or_fieldAt (lineBits l) 16).or_fieldAt t 0⟩
  | setangleId id a =>
    obtain rfl := Option.some.inj h
    exact ⟨_, ((CleanWord.opcode 0x4#4).or_fieldAt id 16).or_fieldAt a 0⟩
  | setangleLine l a =>
    obtain rfl := Option.some.inj h
    exact ⟨_, ((CleanWord.opcode 0x5#4).or_fieldAt (lineBits l) 16).or_fieldAt a 0⟩
  | reserved0 | reserved6 | reserved7 | reserved8 | reserved9 | reservedA | reservedB | reservedC | reservedD
  | reservedE | reservedF =>
    obtain rfl := Option.some.inj h
    exact ⟨_, .opcode _⟩
  | _ => exact nomatch h

/-- Settles O18: the mask covers the opcode, so a match fixes it, and the decoder answers the opcode's command. -/
theorem decodeSelectsByMaskAndMatch : Obligations.DecodeSelectsByMaskAndMatch := by
  intro w
  have hop (k : CmdWord) (h : w &&& 0xF0000000#32 = k &&& 0xF0000000#32) : opField w = opField k :=
    opField_eq_of_and_eq h (by decide)
  exact ⟨fun h => decode_of_opField_eq_one (hop 0x10000000#32 h),
    fun h => decode_of_opField_eq_two (hop 0x20000000#32 h),
    fun h => decode_of_opField_eq_three (hop 0x30000000#32 h),
    fun h => decode_of_opField_eq_four (hop 0x40000000#32 h),
    fun h => decode_of_opField_eq_five (hop 0x50000000#32 h)⟩

/-- Settles O19: the decoder reads significant bits only, and the encoder writes no others. -/
theorem reservedBitsHaveNoEffect : Obligations.ReservedBitsHaveNoEffect := by
  refine ⟨fun _ _ h => decode_eq_of_and_significantBits_eq h, fun i w h => ?_⟩
  obtain ⟨op, hop, hreserved⟩ := cleanWord_of_encode_eq_some h
  rw [hop, hreserved]

end Sys2Proof
end

section
/-! Reserved opcodes (R55) and the response port (R50): what a cycle does before its command, and what the command
adds. -/

namespace Sys2Proof.Machine

/-! ### Reserved opcodes -/

theorem effect_of_kind_reserved {i : Instr} (h : i.kind = .reserved) (s : State) : effect i s = s := by
  cases i with
  | reserved0 | reserved6 | reserved7 | reserved8 | reserved9 | reservedA | reservedB | reservedC | reservedD
  | reservedE | reservedF => rfl
  | _ => exact nomatch h

/-- The opcodes 0x0 and 0x6 to 0xF are the reserved ones (R55). -/
theorem kind_decode_of_reserved_opcode {w : CmdWord}
    (h : w.extractLsb' 28 4 = 0x0#4 ∨ 0x6#4 ≤ w.extractLsb' 28 4) : (decode w).kind = .reserved := by
  rw [kind_decode, opField]
  generalize w.extractLsb' 28 4 = op at h
  revert op
  decide

/-! ### The cycle up to its command -/

/-- What a cycle without reset does before its command: the one-cycle outputs fall, then `Tick` and `Dispatch` run
(R134). -/
def beforeCommand (p : CycleIn) (s : State) : State :=
  (if p.tickEn then s.dropStrobes.tick else s.dropStrobes).dispatch

theorem cycleEffect_of_rst {p : CycleIn} (h : p.rst = true) (s : State) : cycleEffect p s = s.clearAll := by
  rw [cycleEffect, if_pos h]

theorem cycleEffect_of_cmdValid {p : CycleIn} (hr : p.rst = false) (hv : p.cmdValid = true) (s : State) :
    cycleEffect p s = effect (decode p.cmdWord) (beforeCommand p s) := by
  simp [cycleEffect, beforeCommand, hr, hv]

theorem cycleEffect_of_not_cmdValid {p : CycleIn} (hr : p.rst = false) (hv : p.cmdValid = false) (s : State) :
    cycleEffect p s = beforeCommand p s := by
  simp [cycleEffect, beforeCommand, hr, hv]

theorem State.dispatch_of_not_pending {s : State} (h : s.cmf = false) : s.dispatch = s := by
  simp [State.dispatch, State.dispatchEnabled, h]

/-- A cycle with a command alone and no pending match does nothing before the command but let the outputs fall. -/
theorem beforeCommand_commandCycle (w : CmdWord) {s : State} (h : s.cmf = false) :
    beforeCommand (commandCycle w) s = s.dropStrobes :=
  State.dispatch_of_not_pending (s := s.dropStrobes) h

theorem State.pins_of_cons {s : State} {p : CycleIn} {rest : List CycleIn} (h : s.inputs = p :: rest) :
    s.pins = p := by
  simp only [State.pins, h]

/-- Settles O17: a reserved operation has the identity as its effect, a word of a reserved opcode decodes to one, and
nothing else runs in its cycle. -/
theorem reservedOpcodesAreIgnored : Obligations.ReservedOpcodesAreIgnored := by
  intro s hs
  refine ⟨fun i hi => ?_, fun w hw => ?_, fun w rest hw hin hcmf => ?_⟩
  · have hkind : i.kind = .reserved := by
      revert i
      decide
    rw [exec_of_configured hs, effect_of_kind_reserved hkind]
  · rw [exec_of_configured hs, effect_of_kind_reserved (kind_decode_of_reserved_opcode hw)]
  · rw [step_eq_next_iff.2 ⟨hs, rfl⟩, State.pins_of_cons hin, cycleEffect_of_cmdValid rfl rfl,
      beforeCommand_commandCycle w (s := s.takePins) hcmf]
    have hdecode : (decode (commandCycle w).cmdWord).kind = .reserved := kind_decode_of_reserved_opcode hw
    rw [effect_of_kind_reserved hdecode, State.dropStrobes, State.takePins, hin]
    rfl

/-! ### The response port -/

namespace State

variable (s : State)

/-- `Tick` changes `TCNT` and `CMF` at most (R72). -/
theorem tick_frame : s.tick = { s with tcnt := s.tick.tcnt, cmf := s.tick.cmf } := by
  by_cases ha : s.armed = true
  · rw [s.tick_of_armed ha]
  · rw [s.tick_of_not_armed (Bool.eq_false_of_not_eq_true ha)]

/-- No response stands when the command of a cycle begins (R50). -/
theorem rsp_beforeCommand (p : CycleIn) : (beforeCommand p s).rsp = none := by
  rw [beforeCommand, dispatch_frame]
  split
  · exact congrArg State.rsp s.dropStrobes.tick_frame
  · rfl

/-- The command of a cycle finds the `COUNT` that the cycle began with. -/
theorem count_beforeCommand (p : CycleIn) : (beforeCommand p s).count = s.count := by
  rw [beforeCommand, dispatch_frame]
  split
  · exact (congrArg State.count s.dropStrobes.tick_frame :)
  · rfl

/-- `REGISTER` responds `COUNT`, or `INVALID_ID` when the registry is full (R75, R76). -/
theorem rsp_register (line : Line) :
    (s.register line).rsp = some (if s.count.val < 9 then BitVec.ofNat 8 s.count.val else 0xFF#8) := by
  split
  · next hroom => rw [s.register_of_room line (i := ⟨s.count.val, hroom⟩) rfl]
  · next hfull => rw [s.register_of_full line (by have := s.count.isLt; omega)]

theorem rspId_of_rsp {s : State} {id : ChannelId} (h : s.rsp = some id) : s.rspId = id := by
  simp only [rspId, h]

end State

/-- No other operation of the command port touches the response. -/
theorem rsp_effect_of_ne_register {i : Instr} (hi : i.wellFormed = true) (hne : ∀ l, i ≠ .register l) (s : State) :
    (effect i s).rsp = s.rsp := by
  rcases effect_command_cases hi s with ⟨line, h⟩ | ⟨⟨hframe, -⟩, -⟩
  · exact absurd h (hne line)
  · exact (congrArg State.rsp hframe :)

theorem rsp_cycleEffect_of_register {p : CycleIn} (hr : p.rst = false) (hv : p.cmdValid = true) {l : Line}
    (hd : decode p.cmdWord = .register l) (s : State) :
    (cycleEffect p s).rsp = some (if s.count.val < 9 then BitVec.ofNat 8 s.count.val else 0xFF#8) := by
  rw [cycleEffect_of_cmdValid hr hv, hd, ← s.count_beforeCommand p]
  exact State.rsp_register _ l

theorem rsp_cycleEffect_of_no_register {p : CycleIn}
    (h : p.rst = true ∨ p.cmdValid = false ∨ ∀ l, decode p.cmdWord ≠ .register l) (s : State) :
    (cycleEffect p s).rsp = none := by
  cases hr : p.rst with
  | true => rw [cycleEffect_of_rst hr]; rfl
  | false =>
    cases hv : p.cmdValid with
    | false => rw [cycleEffect_of_not_cmdValid hr hv, s.rsp_beforeCommand]
    | true =>
      have hne : ∀ l, decode p.cmdWord ≠ .register l := by simpa [hr, hv] using h
      rw [cycleEffect_of_cmdValid hr hv, rsp_effect_of_ne_register (decode_wellFormed _) hne, s.rsp_beforeCommand]

/-- Settles O43: the response of the last cycle falls first, and of what the cycle runs only `REGISTER` raises one. -/
theorem onlyRegisterResponds : Obligations.OnlyRegisterResponds := by
  intro s _ hstep
  obtain ⟨-, rfl⟩ := step_eq_next_iff.1 hstep
  refine ⟨fun l hr hv hd => ?_, fun h => ?_⟩
  · have hrsp := rsp_cycleEffect_of_register hr hv hd s.takePins
    exact ⟨by rw [State.rspValid, hrsp, Option.isSome_some], State.rspId_of_rsp hrsp⟩
  · rw [State.rspValid, rsp_cycleEffect_of_no_register h, Option.isSome_none]

end Sys2Proof.Machine
end

section
/-! The frame timer and the output lines (R66 to R72): each micro-operation writes the element it names, and without the
arming neither `Tick` nor `Dispatch` has an effect. -/

namespace Sys2Proof.Machine

/-! ### The timer -/

/-- The match of a tick is "set if reached, else kept" (R72). -/
theorem State.tick_of_armed_eq_ite {s : State} (h : s.armed = true) :
    s.tick = { s with
      tcnt := s.tcnt + 1#16
      cmf := if s.tcnt + 1#16 = s.ocr then true else s.cmf } := by
  rw [s.tick_of_armed h]
  split
  · next hreach => rw [beq_iff_eq.2 hreach, Bool.or_true]
  · next hshort => rw [beq_eq_false_iff_ne.2 hshort, Bool.or_false]

/-- Settles O23: the two cases of `Tick`. -/
theorem tickCountsAndMatches : Obligations.TickCountsAndMatches := by
  intro s hs
  rw [exec_of_configured hs]
  exact ⟨fun ha => congrArg _ (State.tick_of_armed_eq_ite ha), fun ha => congrArg _ (s.tick_of_not_armed ha)⟩

/-- Settles O24: the effect of `GetCount` is the identity, and `SetCount(0)` leaves the count 0 for it. -/
theorem getCountReturnsTheCount : Obligations.GetCountReturnsTheCount := by
  intro s hs
  exact ⟨exec_of_configured hs .getCount, rfl, s.setCount 0#16, exec_of_configured hs (.setCount 0#16), rfl⟩

/-- With no match pending, a tick of an armed timer makes one pending exactly by reaching the threshold (R72). -/
theorem State.cmf_tick_iff {s : State} (ha : s.armed = true) (hcmf : s.cmf = false) :
    s.tick.cmf = true ↔ s.tcnt + 1#16 = s.ocr := by
  rw [s.tick_of_armed ha, hcmf, Bool.false_or, beq_iff_eq]

/-- Settles O25: both writes are one-field updates, and the tick after the second compares with the new threshold. -/
theorem timerWritesKeepThePendingFlag : Obligations.TimerWritesKeepThePendingFlag := by
  intro s ticks hs
  have harm : exec (.armCompareMatch ticks) s = .next (s.armCompareMatch ticks) := exec_of_configured hs _
  have htick : exec .tick (s.armCompareMatch ticks) = .next (s.armCompareMatch ticks).tick :=
    exec_of_configured (effect_configured hs (.armCompareMatch ticks)) .tick
  exact ⟨exec_of_configured hs (.setCount ticks), harm, fun ha hcmf =>
    ⟨_, _, harm, htick, State.cmf_tick_iff (s := s.armCompareMatch ticks) ha hcmf⟩⟩

/-! ### The arming -/

/-- No step is dispatched while `ARMED = 0`, even with a match pending (R69, R94). -/
theorem State.dispatch_of_not_armed {s : State} (h : s.armed = false) : s.dispatch = s := by
  simp [State.dispatch, State.dispatchEnabled, h]

/-- While `ARMED = 0` a cycle does nothing before its command but let the outputs fall, tick or no tick (R69). -/
theorem beforeCommand_of_not_armed (p : CycleIn) {s : State} (h : s.armed = false) :
    beforeCommand p s = s.dropStrobes := by
  have hdrop : s.dropStrobes.armed = false := h
  rw [beforeCommand, State.tick_of_not_armed _ hdrop, ite_self, State.dispatch_of_not_armed hdrop]

/-- The state in which the phases of a cycle begin, when the cycle's pins are listed. -/
theorem State.dropStrobes_takePins_of_cons {s : State} {p : CycleIn} {rest : List CycleIn}
    (h : s.inputs = p :: rest) :
    s.takePins.dropStrobes = { s with rsp := none, cmStrobe := false, inputs := rest, cycle := s.cycle + 1 } := by
  rw [State.dropStrobes, State.takePins, h]
  rfl

/-- Settles O26: with the tick and the dispatch idle, what remains of a cycle is its command. -/
theorem callbackIsInstalledByArming : Obligations.CallbackIsInstalledByArming := by
  intro s hs
  refine ⟨exec_of_configured hs .onCompareMatch, fun ha => ⟨?_, fun p rest hin hr => ?_⟩⟩
  · rw [exec_of_configured hs]
    exact congrArg _ (s.tick_of_not_armed ha)
  · have hbegin : beforeCommand p s.takePins =
        { s with rsp := none, cmStrobe := false, inputs := rest, cycle := s.cycle + 1 } := by
      rw [beforeCommand_of_not_armed p (s := s.takePins) ha, State.dropStrobes_takePins_of_cons hin]
    rw [step_eq_next_iff.2 ⟨hs, rfl⟩, State.pins_of_cons hin]
    refine ⟨fun hv => ?_, fun hv => ?_⟩
    · rw [cycleEffect_of_cmdValid hr hv, hbegin]
      exact (exec_of_configured (by exact hs) _).symm
    · rw [cycleEffect_of_not_cmdValid hr hv, hbegin]

/-! ### The lines -/

/-- Settles O27: each operation sets one entry of its vector, and the port shows the vector bit by bit. -/
theorem lineOperationsWriteOneBit : Obligations.LineOperationsWriteOneBit := by
  intro s line level hs
  exact ⟨⟨s.configureAsOutput line, exec_of_configured hs _, rfl, s.getElem_dir_configureAsOutput line,
      getLsbD_portWord _⟩,
    ⟨s.setLine line level, exec_of_configured hs _, rfl, (s.getElem_level_setLine line · level),
      getLsbD_portWord _⟩⟩

end Sys2Proof.Machine
end

section
/-! Channel registration (R75 to R77): what `REGISTER` writes, and that only the first one arms the timer. -/

namespace Sys2Proof.Machine

/-- Settles O6: `COUNT` is the free entry's index while there is one, and each vector is written at one index. -/
theorem registerAppendsAndResponds : Obligations.RegisterAppendsAndResponds := by
  intro s line hs
  rw [exec_of_configured hs]
  refine ⟨fun hroom => ?_, fun hfull => congrArg _ (s.register_of_full line hfull)⟩
  let i : ChannelIndex := ⟨s.count.val, hroom⟩
  have hreg (j : ChannelIndex) :
      (s.appendChannel i line).reg[j] = if j.val = s.count.val then ⟨line, 0#16⟩ else s.reg[j] :=
    (s.getElem_reg_appendChannel i j line).trans (if_congr Fin.ext_iff rfl rfl)
  exact ⟨_, congrArg _ (s.register_of_room line (i := i) rfl), rfl, rfl, hreg,
    s.getElem_dir_configureAsOutput line, (s.getElem_level_setLine line · false),
    rfl, rfl, rfl, rfl, rfl, rfl, rfl, rfl, rfl⟩

/-- What `REGISTER` does to the timer and the cursor, a full registry included: it writes `ARMED`, `TCNT` and `CMF`
exactly when it finds `COUNT = 0`, and neither `OCR` nor `CURSOR` (R77). -/
theorem State.timer_register (s : State) (line : Line) :
    (s.register line).ocr = s.ocr ∧ (s.register line).cursor = s.cursor ∧
      (s.register line).armed = (if s.count.val = 0 then true else s.armed) ∧
      (s.register line).tcnt = (if s.count.val = 0 then 0#16 else s.tcnt) ∧
      (s.register line).cmf = (if s.count.val = 0 then false else s.cmf) := by
  by_cases hroom : s.count.val < 9
  · rw [s.register_of_room line (i := ⟨s.count.val, hroom⟩) rfl]
    exact ⟨rfl, rfl, rfl, rfl, rfl⟩
  · have hne : s.count.val ≠ 0 := by omega
    rw [s.register_of_full line (by have := s.count.isLt; omega), if_neg hne, if_neg hne, if_neg hne]
    exact ⟨rfl, rfl, rfl, rfl, rfl⟩

/-- Settles O7: the two cases of `COUNT`; the tick after the arming counts from the 0 that the arming wrote. -/
theorem firstRegistrationArms : Obligations.FirstRegistrationArms := by
  intro s line hs
  obtain ⟨hocr, hcursor, harmed, htcnt, hcmf⟩ := s.timer_register line
  refine ⟨s.register line, exec_of_configured hs _, hocr, hcursor, fun hfirst => ?_, fun hlater => ?_⟩
  · rw [if_pos hfirst] at harmed htcnt hcmf
    have htick : (s.register line).tick.tcnt = 1#16 := by
      rw [State.tick_of_armed _ harmed, htcnt]
      rfl
    exact ⟨harmed, htcnt, hcmf, _, exec_of_configured (effect_configured hs (.register line)) .tick, htick⟩
  · have hne : s.count.val ≠ 0 := by omega
    rw [if_neg hne] at harmed htcnt hcmf
    exact ⟨harmed, htcnt, hcmf⟩

end Sys2Proof.Machine
end

section
/-! Pulse-width setting (R80 to R82): which widths each of the two commands writes, and when it changes nothing. -/

namespace Sys2Proof.Machine

namespace State

/-- States that agree on all but the widths, and on every width, are the same state. -/
theorem SameButWidths.eq_of_width_eq {s t : State} (h : s.SameButWidths t)
    (hwidth : ∀ j : ChannelIndex, (t.reg[j]).width = (s.reg[j]).width) : t = s := by
  obtain ⟨hframe, hline⟩ := h
  have hentry (j : ChannelIndex) : t.reg[j] = s.reg[j] :=
    congrArg₂ Channel.mk (hline j) (hwidth j)
  have hreg : t.reg = s.reg := Vector.ext fun n hn => hentry ⟨n, hn⟩
  rw [hframe, hreg]

variable (s : State)

/-- An identifier at or above `COUNT` is ignored (R81). -/
theorem setPulseById_of_count_le {id : ChannelId} (h : s.count.val ≤ id.toNat) (w : Ticks) :
    s.setPulseById id w = s := by
  rw [setPulseById, s.liveIndex_eq_none_iff.2 h]

/-- An identifier below `COUNT` selects the entry of its index, the only one whose width is written (R80). -/
theorem width_setPulseById {id : ChannelId} (h : id.toNat < s.count.val) (w : Ticks) (j : ChannelIndex) :
    ((s.setPulseById id w).reg[j]).width = if j.val = id.toNat then w else (s.reg[j]).width := by
  have hlive : s.liveIndex id.toNat = some ⟨id.toNat, by have := s.count.isLt; omega⟩ :=
    s.liveIndex_eq_some_iff.2 ⟨rfl, h⟩
  rw [setPulseById, hlive, getElem_reg_setWidth, apply_ite Channel.width]
  exact if_congr Fin.ext_iff rfl rfl

/-- The scan over all live entries writes the widths of those on the line (R82). -/
theorem width_setPulseByLine (line : Line) (w : Ticks) (j : ChannelIndex) :
    ((s.setPulseByLine line w).reg[j]).width =
      if j.val < s.count.val ∧ (s.reg[j]).line = line then w else (s.reg[j]).width := by
  rw [setPulseByLine, getElem_reg_scanLine, apply_ite Channel.width]
  exact if_congr (and_iff_right_of_imp And.left) rfl rfl

/-- With no live entry on the line every width stays, and so does the state (R82). -/
theorem setPulseByLine_of_no_match {line : Line}
    (h : ∀ j : ChannelIndex, j.val < s.count.val → (s.reg[j]).line ≠ line) (w : Ticks) :
    s.setPulseByLine line w = s := by
  refine (s.setPulseByLine_widths line w).1.eq_of_width_eq fun j => ?_
  rw [width_setPulseByLine, if_neg fun hmatch => h j hmatch.1 hmatch.2]

end State

/-- Settles O10: `id` selects an entry exactly while it is below `COUNT`. -/
theorem setPulseByIdWritesOneWidth : Obligations.SetPulseByIdWritesOneWidth := by
  intro s id ticks hs
  rw [exec_of_configured hs]
  exact ⟨fun hlive => ⟨_, rfl, (s.setPulseById_widths id ticks).1, s.width_setPulseById hlive ticks⟩,
    fun hout => congrArg _ (s.setPulseById_of_count_le hout ticks)⟩

/-- Settles O11: the scan writes the matching widths only, so that without a match it writes none. -/
theorem setPulseByLineWritesEveryMatch : Obligations.SetPulseByLineWritesEveryMatch := by
  intro s line ticks hs
  rw [exec_of_configured hs]
  exact ⟨⟨_, rfl, (s.setPulseByLine_widths line ticks).1, s.width_setPulseByLine line ticks⟩,
    fun hnone => congrArg _ (s.setPulseByLine_of_no_match hnone ticks)⟩

end Sys2Proof.Machine
end

section
/-! The angle layer (R87 to R92): the conversion is a composition of monotonic stages that never truncates, and an
accepted angle command is the pulse-width command of the converted width. -/

namespace Sys2Proof.Machine

/-! ### The conversion -/

theorem monotone_ticksOfUs (p : Params) : Monotone (ticksOfUs p) :=
  fun _ _ h => Nat.div_le_div_right (Nat.mul_le_mul_right _ h)

theorem monotone_pulseUsOfAngle (p : Params) : Monotone (pulseUsOfAngle p) :=
  fun _ _ h => Nat.add_le_add_left (Nat.div_le_div_right (Nat.mul_le_mul_right _ h)) _

/-- No bound on the angle is needed: 180 matters as the end value only (R89). -/
theorem monotone_ticksOfAngle (p : Params) : Monotone (ticksOfAngle p) :=
  (monotone_ticksOfUs p).comp (monotone_pulseUsOfAngle p)

theorem ticksOfAngle_zero (p : Params) : ticksOfAngle p 0 = ticksOfUs p p.minPulseUs := rfl

theorem ticksOfAngle_angleMax (p : Params) : ticksOfAngle p 180 = ticksOfUs p (p.minPulseUs + 1000) := rfl

/-- Settles O15: both stages are monotonic, and the end values are the conversions of 0 and 180 degrees. -/
theorem angleConversionIsMonotonic : Obligations.AngleConversionIsMonotonic := by
  refine ⟨fun p a b hab _ => monotone_ticksOfAngle p hab.le, fun p a ha => ?_, fun _ _ _ => rfl,
    by decide, by decide⟩
  rw [← ticksOfAngle_zero, ← ticksOfAngle_angleMax]
  exact ⟨monotone_ticksOfAngle p a.zero_le, monotone_ticksOfAngle p ha⟩

/-- The stored width of an accepted angle is the converted value in full, with both floors written out (R87, R88). -/
theorem toNat_angleWidth {p : Params} (hp : paramsWellFormed p = true) {deg : Degrees} (hdeg : deg.toNat ≤ 180) :
    (angleWidth p deg).toNat = (p.minPulseUs + deg.toNat * 1000 / 180) * p.tickHz / 1000000 := by
  rw [angleWidth, BitVec.toNat_ofNat, Nat.mod_eq_of_lt (ticksOfAngle_lt hp hdeg)]
  rfl

/-! ### The range check -/

theorem angleAccepted_of_le {deg : Degrees} (h : deg.toNat ≤ 180) : angleAccepted deg = true := decide_eq_true h

theorem angleAccepted_of_lt {deg : Degrees} (h : 180 < deg.toNat) : angleAccepted deg = false :=
  decide_eq_false (Nat.not_le.2 h)

namespace State

variable (s : State) {deg : Degrees}

theorem setAngleById_of_le (h : deg.toNat ≤ 180) (id : ChannelId) :
    s.setAngleById id deg = s.setPulseById id (angleWidth s.params deg) :=
  if_pos (angleAccepted_of_le h)

theorem setAngleByLine_of_le (h : deg.toNat ≤ 180) (line : Line) :
    s.setAngleByLine line deg = s.setPulseByLine line (angleWidth s.params deg) :=
  if_pos (angleAccepted_of_le h)

/-- An angle above 180 is rejected, whatever the identifier (R92). -/
theorem setAngleById_of_lt (h : 180 < deg.toNat) (id : ChannelId) : s.setAngleById id deg = s := by
  simp [setAngleById, angleAccepted_of_lt h]

/-- An angle above 180 is rejected, whatever the line (R92). -/
theorem setAngleByLine_of_lt (h : 180 < deg.toNat) (line : Line) : s.setAngleByLine line deg = s := by
  simp [setAngleByLine, angleAccepted_of_lt h]

end State

/-- Settles O14: the range check comes before either command looks at the registry. -/
theorem anglesAboveRangeAreRejected : Obligations.AnglesAboveRangeAreRejected := by
  intro s id line deg hs hdeg
  rw [exec_of_configured hs, exec_of_configured hs]
  exact ⟨congrArg _ (s.setAngleById_of_lt hdeg id), congrArg _ (s.setAngleByLine_of_lt hdeg line)⟩

/-! ### The widths stored -/

/-- Settles O12: an accepted angle is a `SETPULSE.ID` of its width, which ignores an identifier out of range. -/
theorem setAngleByIdStoresConvertedWidth : Obligations.SetAngleByIdStoresConvertedWidth := by
  intro s id deg hs
  rw [exec_of_configured hs]
  refine ⟨fun hdeg hlive => ⟨_, congrArg _ (s.setAngleById_of_le hdeg id),
    (s.setPulseById_widths id _).1, fun j => ?_⟩, fun hnone => congrArg _ ?_⟩
  · rw [s.width_setPulseById hlive, apply_ite BitVec.toNat, toNat_angleWidth hs hdeg]
  · rcases Nat.lt_or_ge 180 deg.toNat with hdeg | hdeg
    · exact s.setAngleById_of_lt hdeg id
    · have hout : s.count.val ≤ id.toNat := hnone.resolve_left (Nat.not_lt.2 hdeg)
      exact (s.setAngleById_of_le hdeg id).trans (s.setPulseById_of_count_le hout _)

/-- Settles O13: an accepted angle is a `SETPULSE.LINE` of its width. -/
theorem setAngleByLineStoresConvertedWidth : Obligations.SetAngleByLineStoresConvertedWidth := by
  intro s line deg hs
  rw [exec_of_configured hs]
  refine ⟨fun hdeg => ⟨_, congrArg _ (s.setAngleByLine_of_le hdeg line),
    (s.setPulseByLine_widths line _).1, fun j => ?_⟩, fun hdeg => congrArg _ (s.setAngleByLine_of_lt hdeg line)⟩
  rw [s.width_setPulseByLine, apply_ite BitVec.toNat, toNat_angleWidth hs hdeg]

end Sys2Proof.Machine
end

section
/-! The scheduler step (R94 to R102): phase A answers the next index and the closed state, phase B opens the slot of a
registered index and waits out the frame at any other. -/

namespace Sys2Proof.Machine

namespace State

variable (s : State)

/-! ### Phase B -/

/-- A slot of nonzero width: its end is armed from the current count and its line driven high (R99). -/
theorem openSlot_of_pulse {j : ChannelIndex} (h : (s.reg[j]).width ≠ 0#16) :
    s.openSlot j =
      { s with
        cursor := some j
        ocr := s.tcnt + (s.reg[j]).width
        level := s.level.set (s.reg[j]).line true } := by
  have hsum : tickSum s.tcnt (s.reg[j]).width.toNat = s.tcnt + (s.reg[j]).width := by
    rw [tickSum_eq_add, BitVec.ofNat_toNat, BitVec.setWidth_eq]
  rw [← hsum]
  exact if_pos h

/-- A slot of width zero: `ZERO_SLOT_TICKS` are armed from the current count and no line is driven (R100). -/
theorem openSlot_of_skip {j : ChannelIndex} (h : (s.reg[j]).width = 0#16) :
    s.openSlot j =
      { s with
        cursor := some j
        ocr := s.tcnt + BitVec.ofNat 16 s.params.zeroSlotTicks } := by
  rw [← tickSum_eq_add]
  exact if_neg (not_not.2 h)

/-- Opening a slot moves the cursor to it and keeps the count (R99, R100). -/
theorem cursor_tcnt_openSlot (j : ChannelIndex) : (s.openSlot j).cursor = some j ∧ (s.openSlot j).tcnt = s.tcnt := by
  by_cases hw : (s.reg[j]).width = 0#16
  · rw [s.openSlot_of_skip hw]
    exact ⟨rfl, rfl⟩
  · rw [s.openSlot_of_pulse hw]
    exact ⟨rfl, rfl⟩

/-- The only line that opening a slot writes is the one of a channel with a pulse, which it drives high (R99, R100). -/
theorem level_openSlot (j : ChannelIndex) (l : Line) :
    (s.openSlot j).level[l] =
      if (s.reg[j]).line = l ∧ (s.reg[j]).width ≠ 0#16 then true else s.level[l] := by
  by_cases hw : (s.reg[j]).width = 0#16
  · rw [s.openSlot_of_skip hw, if_neg fun h => h.2 hw]
  · rw [s.openSlot_of_pulse hw]
    exact (s.getElem_level_setLine _ l true).trans
      (if_congr (eq_comm.trans (and_iff_left hw).symm) rfl rfl)

/-- The tail: the cursor goes to `NONE`, and the frame boundary is armed or, too close to it, the look-ahead (R101,
R102). -/
theorem enterTail_eq :
    s.enterTail =
      { s with
        cursor := none
        ocr := if (s.params.frameTicks : Int) - s.tcnt.toNat > s.params.guardTicks
          then BitVec.ofNat 16 s.params.frameTicks
          else s.tcnt + BitVec.ofNat 16 s.params.lookaheadTicks } := by
  by_cases hroom : (s.params.frameTicks : Int) - s.tcnt.toNat > s.params.guardTicks
  · rw [if_pos hroom]
    exact if_pos (decide_eq_true hroom)
  · rw [if_neg hroom, ← tickSum_eq_add]
    exact if_neg (mt of_decide_eq_true hroom)

/-! ### The two phases together -/

/-- With a registered channel next, a step opens its slot (R96). -/
theorem schedulerStep_of_lt {j : ChannelIndex} {u : State} (hclose : s.closeSlot = (j.val, u))
    (h : j.val < s.count.val) : s.schedulerStep = u.openSlot j := by
  rcases s.schedulerStep_cases with ⟨k, hk, -, e⟩ | ⟨hle, -⟩
  · rw [hclose] at hk e
    rwa [Fin.ext hk] at e
  · rw [hclose] at hle
    exact absurd h (Nat.not_lt.2 hle)

/-- With no channel left, a step enters the frame tail (R96). -/
theorem schedulerStep_of_le {n : Nat} {u : State} (hclose : s.closeSlot = (n, u)) (h : s.count.val ≤ n) :
    s.schedulerStep = u.enterTail := by
  rcases s.schedulerStep_cases with ⟨k, hk, hlt, -⟩ | ⟨-, e⟩
  · rw [hk, hclose] at hlt
    exact absurd hlt (Nat.not_lt.2 h)
  · rwa [hclose] at e

/-- An enabled `Dispatch` is a step from the interrupt's entry state (R94). -/
theorem dispatch_of_enabled (hcmf : s.cmf = true) (harmed : s.armed = true) :
    s.dispatch = s.enterInterrupt.schedulerStep :=
  if_pos (Bool.and_eq_true_iff.2 ⟨hcmf, harmed⟩)

end State

/-! ### The statements -/

/-- Settles O32: phase A's two branches leave the index, the count and the lines that the statement names, and the
width decides what phase B does with them. -/
theorem stepServesNextChannel : Obligations.StepServesNextChannel := by
  intro s j now closed hs hj hphaseA
  rw [exec_of_configured hs]
  have hclose : s.closeSlot = (j.val, { s with tcnt := now, level := closed }) := by
    rcases hphaseA with ⟨hcur, hj0, rfl, rfl⟩ | ⟨i, hcur, hji, rfl, rfl⟩
    · rw [s.closeSlot_of_none hcur, hj0]
      rfl
    · rw [s.closeSlot_of_some hcur, hji]
      rfl
  have hstep := s.schedulerStep_of_lt hclose hj
  exact ⟨fun hw => congrArg _ (hstep.trans (State.openSlot_of_pulse _ hw)),
    fun hw => congrArg _ (hstep.trans (State.openSlot_of_skip _ hw))⟩

/-- Settles O33: phase A finds no registered index after `i`, so phase B is the tail. -/
theorem stepEntersFrameTail : Obligations.StepEntersFrameTail := by
  intro s i hs hcur hlast
  rw [exec_of_configured hs]
  exact congrArg _ ((s.schedulerStep_of_le (s.closeSlot_of_some hcur) hlast).trans (State.enterTail_eq _))

/-- Settles O31: at the sentinel phase A answers index 0, which is registered, with the count zeroed. -/
theorem stepStartsFrame : Obligations.StepStartsFrame := by
  intro s hs hcur hcount
  have hstep : s.schedulerStep = (s.setCount 0#16).openSlot 0 :=
    s.schedulerStep_of_lt (s.closeSlot_of_none hcur) hcount
  obtain ⟨hcursor, htcnt⟩ := (s.setCount 0#16).cursor_tcnt_openSlot 0
  have hlevel := (s.setCount 0#16).level_openSlot 0
  refine ⟨_, (exec_of_configured hs .step).trans (congrArg _ hstep), htcnt, hcursor, fun hw => ?_, fun l hl => ?_⟩
  · exact (hlevel _).trans (if_pos ⟨rfl, hw⟩)
  · exact (hlevel l).trans (if_neg fun h => hl h.1.symm)

/-- Settles O34: phase A leaves the line of `i` low, so it is high after the step exactly if phase B drives it. -/
theorem stepClosesTheOpenSlot : Obligations.StepClosesTheOpenSlot := by
  intro s i hs hcur
  refine ⟨s.schedulerStep, exec_of_configured hs .step, ?_⟩
  let u := s.setLine (s.reg[i]).line false
  have hclose : s.closeSlot = (i.val + 1, u) := s.closeSlot_of_some hcur
  have hlow : u.level[(s.reg[i]).line] = false := (s.getElem_level_setLine _ _ false).trans (if_pos rfl)
  have hphaseB := s.schedulerStep_cases
  rw [hclose] at hphaseB
  obtain ⟨j, hj, -, hstep⟩ | ⟨-, hstep⟩ := hphaseB
  · obtain ⟨hcursor, htcnt⟩ := u.cursor_tcnt_openSlot j
    have hmoved : j ≠ i := fun h => Nat.succ_ne_self i.val (h ▸ hj).symm
    rw [hstep]
    refine ⟨htcnt, fun h => hmoved (Option.some.inj (hcursor.symm.trans h)), ?_⟩
    rw [u.level_openSlot, hlow, hcursor, ite_eq_left_iff]
    simp [u]
  · rw [hstep, u.enterTail_eq]
    exact ⟨rfl, nofun, fun h => absurd (hlow.symm.trans h) nofun, fun ⟨_, h, _⟩ => nomatch h⟩

/-- Settles O29: the interrupt's entry clears `CMF` and raises `cm_strobe`, and the step it runs writes neither. -/
theorem dispatchRunsOneStep : Obligations.DispatchRunsOneStep := by
  intro s hs hcmf harmed
  have hframe := s.enterInterrupt.schedulerStep_frame
  refine ⟨s.enterInterrupt.schedulerStep, ?_, exec_of_configured (by exact hs) .step, ?_, ?_⟩
  · exact (exec_of_configured hs .dispatch).trans (congrArg _ (s.dispatch_of_enabled hcmf harmed))
  · rw [hframe]
    rfl
  · rw [hframe]
    rfl

end Sys2Proof.Machine
end

section
/-! No fault and no stop (R111): under a well-formed configuration every operation and every clock cycle has a next
state. -/

namespace Sys2Proof.Machine

/-- In a well-formed configuration a step answers the effect of its cycle, under whatever pins: taking them keeps the
configuration. -/
theorem step_of_configured {s : State} (h : s.Configured) : step s = .next (cycleEffect s.pins s.takePins) :=
  cycle_of_configured (s := s.takePins) h s.pins

/-- Settles O4: the next state is the operation's effect, or the effect of the cycle under the pins that are taken. -/
theorem everyTransitionCompletes : Obligations.EveryTransitionCompletes :=
  fun _ h => ⟨fun i => ⟨_, exec_of_configured h i⟩, _, step_of_configured h⟩

end Sys2Proof.Machine
end

section
/-! The order of a clock cycle (R134): each phase is an operation that runs under a condition, on the state that the
phase before it left. -/

namespace Sys2Proof.Machine

/-- A phase of a cycle: the operation `i` runs where `b` holds, and nothing happens where it does not. -/
def phaseEffect (b : Bool) (i : Instr) (s : State) : State := if b then effect i s else s

theorem phaseEffect_configured {s : State} (h : s.Configured) (b : Bool) (i : Instr) :
    (phaseEffect b i s).Configured := by
  cases b with
  | true => exact effect_configured h i
  | false => exact h

/-- What a phase answers, in the words of R134. -/
theorem exec_phaseEffect {s : State} (h : s.Configured) (b : Bool) (i : Instr) :
    if b = true then exec i s = .next (phaseEffect b i s) else phaseEffect b i s = s := by
  cases b with
  | true => exact exec_of_configured h i
  | false => rfl

/-- `Dispatch` is a phase too: it is its own guard (R94). -/
theorem exec_dispatch_phase {s : State} (h : s.Configured) :
    if s.cmf = true ∧ s.armed = true then exec .dispatch s = .next s.dispatch else s.dispatch = s := by
  split
  · exact exec_of_configured h .dispatch
  · next hdisabled => exact if_neg (mt Bool.and_eq_true_iff.1 hdisabled)

theorem beforeCommand_eq_phases (p : CycleIn) (s : State) :
    beforeCommand p s = (phaseEffect p.tickEn .tick s.dropStrobes).dispatch := rfl

/-- Without reset a cycle ends with its command phase. -/
theorem cycleEffect_eq_phases {p : CycleIn} (hr : p.rst = false) (s : State) :
    cycleEffect p s = phaseEffect p.cmdValid (decode p.cmdWord) (beforeCommand p s) := by
  cases hv : p.cmdValid with
  | true => exact cycleEffect_of_cmdValid hr hv s
  | false => exact cycleEffect_of_not_cmdValid hr hv s

/-- Settles O41: the states between the phases are the effects of the phases before them. -/
theorem cycleOrdersTickDispatchExec : Obligations.CycleOrdersTickDispatchExec := by
  intro s p rest hs hin
  have hstep : step s = .next (cycleEffect p s.takePins) := by
    rw [step_of_configured hs, State.pins_of_cons hin]
  refine ⟨fun hr => ?_, fun hr => ?_⟩
  · have htaken : s.takePins = { s with inputs := rest, cycle := s.cycle + 1 } := by
      rw [State.takePins, hin]
      rfl
    rw [hstep, cycleEffect_of_rst hr, ← htaken]
    exact (exec_of_configured (s := s.takePins) hs .reset).symm
  · rw [← State.dropStrobes_takePins_of_cons hin, hstep, cycleEffect_eq_phases hr, beforeCommand_eq_phases]
    have hbegin : s.takePins.dropStrobes.Configured := hs
    have hticked := phaseEffect_configured hbegin p.tickEn .tick
    have hdispatched := effect_configured hticked .dispatch
    exact ⟨_, _, _, exec_phaseEffect hbegin _ _, exec_dispatch_phase hticked, exec_phaseEffect hdispatched _ _, rfl⟩

end Sys2Proof.Machine
end

section
/-! The first step (R133): an armed timer counts the `OCR_RESET` ticks from its arming, and the tick that completes them
starts a frame, whatever commands are executed on the way. -/

namespace Sys2Proof.Machine

/-! ### The count and the reset threshold -/

/-- The ticks from the arming to the first step (R133). -/
def firstStepTicks (c : Params) : Nat := if c.ocrReset = 0 then 2 ^ 16 else c.ocrReset

/-- Up to the first step, the number of ticks counted is told from the threshold in 16 bits. -/
theorem ofNat_eq_ocrReset_iff {c : Params} (hc : paramsWellFormed c = true) {k : Nat} (hpos : 1 ≤ k)
    (hle : k ≤ firstStepTicks c) : BitVec.ofNat 16 k = BitVec.ofNat 16 c.ocrReset ↔ k = firstStepTicks c := by
  obtain ⟨-, -, -, -, -, -, hreset⟩ := (paramsWellFormed_iff c).1 hc
  rw [← BitVec.toNat_inj, BitVec.toNat_ofNat, BitVec.toNat_ofNat]
  unfold firstStepTicks at *
  split at hle
  · next hzero => rw [if_pos hzero]; omega
  · next hpos => rw [if_neg hpos]; omega

/-! ### Cycles of a registered block, and runs of them -/

/-- Once a channel is registered, the command of a cycle leaves the timer, the cursor and `cm_strobe` as `Tick` and
`Dispatch` left them. -/
theorem cycleEffect_of_registered {p : CycleIn} (hr : p.rst = false) {s : State} (hc : 1 ≤ s.count.val) :
    cycleEffect p s =
        { beforeCommand p s with
          reg := (cycleEffect p s).reg
          count := (cycleEffect p s).count
          dir := (cycleEffect p s).dir
          level := (cycleEffect p s).level
          rsp := (cycleEffect p s).rsp } ∧
      s.count.val ≤ (cycleEffect p s).count.val := by
  rw [← s.count_beforeCommand p] at hc ⊢
  cases hv : p.cmdValid with
  | true =>
    rw [cycleEffect_of_cmdValid hr hv]
    obtain ⟨hframe, hle, -⟩ := effect_command_of_registered (decode_wellFormed p.cmdWord) hc
    exact ⟨hframe, hle⟩
  | false =>
    rw [cycleEffect_of_not_cmdValid hr hv]
    exact ⟨rfl, le_rfl⟩

theorem runCycles_add (m n : Nat) (s : State) :
    runCycles (m + n) s = andThen (runCycles m s) (runCycles n) := by
  induction m generalizing s with
  | zero => rw [Nat.zero_add]; rfl
  | succ m ih =>
    rw [Nat.succ_add, runCycles, runCycles]
    cases step s with
    | next u => exact ih u
    | fault r => rfl
    | refused r => rfl

theorem runCycles_one (s : State) : runCycles 1 s = step s := by
  rw [runCycles]
  cases step s <;> rfl

/-! ### Waiting for the first step -/

/-- A match dispatched at the sentinel starts a frame (R94, R98). -/
theorem State.dispatch_of_frameEnd {s : State} (hcmf : s.cmf = true) (harmed : s.armed = true)
    (hcur : s.cursor = none) (hc : 1 ≤ s.count.val) :
    s.dispatch.cmStrobe = true ∧ s.dispatch.tcnt = 0#16 ∧ s.dispatch.cursor = some 0 := by
  have hstep : s.enterInterrupt.schedulerStep = (s.enterInterrupt.setCount 0#16).openSlot 0 :=
    State.schedulerStep_of_lt _ (State.closeSlot_of_none _ hcur) hc
  obtain ⟨hcursor, htcnt⟩ := (s.enterInterrupt.setCount 0#16).cursor_tcnt_openSlot 0
  rw [← hstep] at hcursor htcnt
  rw [s.dispatch_of_enabled hcmf harmed]
  exact ⟨congrArg State.cmStrobe s.enterInterrupt.schedulerStep_frame, htcnt, hcursor⟩

/-- The block with the parameters `c`, `k` ticks after its arming, has run no step yet. -/
structure State.AwaitsFirstStep (s : State) (c : Params) (k : Nat) : Prop where
  params_eq : s.params = c
  configured : s.Configured
  registered : 1 ≤ s.count.val
  armed : s.armed = true
  cursor_eq : s.cursor = none
  ocr_eq : s.ocr = BitVec.ofNat 16 c.ocrReset
  tcnt_eq : s.tcnt = BitVec.ofNat 16 k
  cmf_clear : s.cmf = false
  strobe_low : s.cmStrobe = false

namespace State.AwaitsFirstStep

variable {s : State} {c : Params} {k : Nat}

/-- The pins are taken and the one-cycle outputs fall without an effect on the wait. -/
theorem beginCycle (h : s.AwaitsFirstStep c k) : s.takePins.dropStrobes.AwaitsFirstStep c k :=
  { h with strobe_low := rfl }

/-- A tick up to the first step counts, and makes a match pending exactly when it completes the ticks to it. -/
theorem tick_eq (h : s.AwaitsFirstStep c k) (hle : k + 1 ≤ firstStepTicks c) :
    s.tick = { s with tcnt := BitVec.ofNat 16 (k + 1), cmf := decide (k + 1 = firstStepTicks c) } := by
  have hreach := ofNat_eq_ocrReset_iff (h.params_eq ▸ h.configured) (Nat.succ_pos k) hle
  rw [tick_of_armed_eq_ite h.armed, h.tcnt_eq, ← BitVec.ofNat_add, h.ocr_eq, h.cmf_clear]
  simp only [hreach, Bool.if_true_left, Bool.or_false]

/-- A cycle whose tick, if any, is not the last one only counts before its command. -/
theorem beforeCommand_of_short (h : s.AwaitsFirstStep c k) {p : CycleIn}
    (hshort : k + p.tickEn.toNat < firstStepTicks c) :
    beforeCommand p s.takePins =
      { s.takePins.dropStrobes with tcnt := BitVec.ofNat 16 (k + p.tickEn.toNat) } := by
  have hbegin := h.beginCycle
  rw [beforeCommand]
  cases hp : p.tickEn with
  | true =>
    rw [hp] at hshort
    have hne : k + 1 ≠ firstStepTicks c := hshort.ne
    rw [if_pos rfl, hbegin.tick_eq hshort.le, decide_eq_false hne, dispatch_of_not_pending rfl, ← hbegin.cmf_clear]
    rfl
  | false =>
    rw [if_neg nofun, dispatch_of_not_pending hbegin.cmf_clear]
    exact congrArg s.takePins.dropStrobes.setCount hbegin.tcnt_eq

/-- A cycle whose tick, if any, is not the last one keeps the block waiting, whatever its command. -/
theorem step_of_short (h : s.AwaitsFirstStep c k) {p : CycleIn} {rest : List CycleIn} (hin : s.inputs = p :: rest)
    (hr : p.rst = false) (hshort : k + p.tickEn.toNat < firstStepTicks c) :
    ∃ t, step s = .next t ∧ t.AwaitsFirstStep c (k + p.tickEn.toNat) ∧ t.inputs = rest := by
  have hbegin := h.beginCycle
  obtain ⟨hframe, hle⟩ := cycleEffect_of_registered hr (s := s.takePins) h.registered
  rw [h.beforeCommand_of_short hshort] at hframe
  refine ⟨_, step_of_configured h.configured, ?_⟩
  rw [pins_of_cons hin]
  generalize cycleEffect p s.takePins = t at hframe hle
  rw [hframe]
  exact ⟨{ hbegin with registered := h.registered.trans hle, tcnt_eq := rfl }, congrArg List.tail hin⟩

/-- The wait over a run of cycles that together stay short of the first step. -/
theorem run_of_short (h : s.AwaitsFirstStep c k) {ps rest : List CycleIn} (hin : s.inputs = ps ++ rest)
    (hr : ∀ p ∈ ps, p.rst = false) (hshort : k + ps.countP (·.tickEn) < firstStepTicks c) :
    ∃ t, runCycles ps.length s = .next t ∧ t.AwaitsFirstStep c (k + ps.countP (·.tickEn)) ∧ t.inputs = rest := by
  induction ps generalizing s k with
  | nil => exact ⟨s, rfl, h, hin⟩
  | cons p ps ih =>
    have hcount : k + (p :: ps).countP (·.tickEn) = k + p.tickEn.toNat + ps.countP (·.tickEn) := by
      cases hp : p.tickEn <;> simp [hp, Nat.add_assoc, Nat.add_comm]
    rw [hcount] at hshort ⊢
    obtain ⟨hrp, hrps⟩ := List.forall_mem_cons.1 hr
    obtain ⟨u, hstep, hu, hinu⟩ := h.step_of_short hin hrp (Nat.lt_of_le_of_lt (Nat.le_add_right _ _) hshort)
    rw [List.length_cons, runCycles, hstep]
    exact ih hu hinu hrps hshort

/-- The last tick of the wait runs the first step, a frame start, whatever the command of its cycle. -/
theorem step_of_last (h : s.AwaitsFirstStep c k) {p : CycleIn} {rest : List CycleIn} (hin : s.inputs = p :: rest)
    (hr : p.rst = false) (htick : p.tickEn = true) (hlast : k + 1 = firstStepTicks c) :
    ∃ t, step s = .next t ∧ t.cmStrobe = true ∧ t.tcnt = 0#16 ∧ t.cursor = some 0 := by
  have hbegin := h.beginCycle
  have htimer : (beforeCommand p s.takePins).cmStrobe = true ∧ (beforeCommand p s.takePins).tcnt = 0#16 ∧
      (beforeCommand p s.takePins).cursor = some 0 := by
    rw [beforeCommand, if_pos htick, hbegin.tick_eq hlast.le, decide_eq_true hlast]
    exact dispatch_of_frameEnd rfl hbegin.armed hbegin.cursor_eq hbegin.registered
  obtain ⟨hframe, -⟩ := cycleEffect_of_registered hr (s := s.takePins) h.registered
  refine ⟨_, step_of_configured h.configured, ?_⟩
  rw [pins_of_cons hin, hframe]
  exact htimer

end State.AwaitsFirstStep

/-- The cycle that executes the first `REGISTER` arms the timer and counts no tick, not even its own: the command comes
last, and before it the timer stands still (R77, R134). -/
theorem State.Inv.awaitsFirstStep_of_register {s : State} (hi : s.Inv) (hs : s.Configured) (hfirst : s.count.val = 0)
    {p : CycleIn} {rest : List CycleIn} {line : Line} (hin : s.inputs = p :: rest) (hr : p.rst = false)
    (hv : p.cmdValid = true) (hd : decode p.cmdWord = .register line) :
    ∃ t, step s = .next t ∧ t.AwaitsFirstStep s.params 0 ∧ t.inputs = rest := by
  have hunarmed : s.armed = false := by
    rw [← Bool.not_eq_true, hi.armed_iff]
    omega
  obtain ⟨hcursor, -, -, hocr, -⟩ := hi.inert hunarmed
  refine ⟨_, step_of_configured hs, ?_⟩
  rw [pins_of_cons hin, cycleEffect_of_cmdValid hr hv, hd, beforeCommand_of_not_armed p (s := s.takePins) hunarmed]
  have hregister : effect (.register line) s.takePins.dropStrobes = _ :=
    s.takePins.dropStrobes.register_of_room line (i := 0) hfirst.symm
  rw [hregister]
  exact ⟨⟨rfl, hs, le_rfl, rfl, hcursor, hocr, rfl, rfl, rfl⟩, congrArg List.tail hin⟩

/-- Settles O52: the first `REGISTER` begins the wait, every cycle short of its last tick keeps it, and the last tick
ends it. -/
theorem firstStepComesAfterOcrResetTicks : Obligations.FirstStepComesAfterOcrResetTicks := by
  intro s line w tick ps rest p hs hi hfirst hd hin hrs hr htick hlast
  obtain ⟨a, harm, ha, hina⟩ := hi.awaitsFirstStep_of_register hs hfirst hin rfl rfl hd
  have hrun (n : Nat) : runCycles (n + 1) s = runCycles n a := by rw [runCycles, harm]; rfl
  have hlast : 0 + ps.countP (·.tickEn) + 1 = firstStepTicks s.params := by rw [Nat.zero_add]; exact hlast
  refine ⟨fun k hk => ?_, ?_⟩
  · have hprefix : a.inputs = ps.take k ++ (ps.drop k ++ p :: rest) := by
      rw [hina, ← List.append_assoc, List.take_append_drop]
    have hcount := (List.take_sublist k ps).countP_le (p := (·.tickEn))
    obtain ⟨t, ht, hwait, -⟩ := ha.run_of_short hprefix (fun q hq => hrs q (List.mem_of_mem_take hq)) (by omega)
    rw [List.length_take_of_le hk] at ht
    rw [Nat.zero_add] at hwait
    exact ⟨t, (hrun k).trans ht, hwait.cursor_eq, hwait.strobe_low, hwait.ocr_eq, hwait.tcnt_eq⟩
  · obtain ⟨u, hu, hwait, hinu⟩ := ha.run_of_short hina hrs (by omega)
    obtain ⟨t, hstep, hend⟩ := hwait.step_of_last hinu hr htick hlast
    refine ⟨t, ?_, hend⟩
    rw [hrun, runCycles_add, hu, andThen_next, runCycles_one, hstep]

end Sys2Proof.Machine
end

section
/-! Decoder and encoder are inverse to each other (R51 to R58): the encoder's fields are read back from where they
stand, and a word that lost its reserved bits is the union of its fields. -/

namespace Sys2Proof

open Machine

/-! ### From the operation to the word and back -/

theorem decode_encodeL (l : Line) : decode (encodeL 0x1#4 l) = .register l := by
  have hop : opField (encodeL 0x1#4 l) = 1 := ((CleanWord.opcode 0x1#4).or_fieldAt (lineBits l) 16).opField_eq
  rw [decode_of_opField_eq_one hop, lineField, encodeL]
  simp [extractLsb'_or, extractLsb'_fieldAt_self, extractLsb'_fieldAt_disjoint, lineBits]

theorem decode_encodeIT (id : ChannelId) (t : Ticks) : decode (encodeIT 0x2#4 id t) = .setpulseId id t := by
  have hop : opField (encodeIT 0x2#4 id t) = 2 :=
    (((CleanWord.opcode 0x2#4).or_fieldAt id 16).or_fieldAt t 0).opField_eq
  rw [decode_of_opField_eq_two hop, idField, ticksField, encodeIT]
  simp [extractLsb'_or, extractLsb'_fieldAt_self, extractLsb'_fieldAt_disjoint]

theorem decode_encodeLT (l : Line) (t : Ticks) : decode (encodeLT 0x3#4 l t) = .setpulseLine l t := by
  have hop : opField (encodeLT 0x3#4 l t) = 3 :=
    (((CleanWord.opcode 0x3#4).or_fieldAt (lineBits l) 16).or_fieldAt t 0).opField_eq
  rw [decode_of_opField_eq_three hop, lineField, ticksField, encodeLT]
  simp [extractLsb'_or, extractLsb'_fieldAt_self, extractLsb'_fieldAt_disjoint, lineBits]

theorem decode_encodeIA (id : ChannelId) (a : Degrees) : decode (encodeIA 0x4#4 id a) = .setangleId id a := by
  have hop : opField (encodeIA 0x4#4 id a) = 4 :=
    (((CleanWord.opcode 0x4#4).or_fieldAt id 16).or_fieldAt a 0).opField_eq
  rw [decode_of_opField_eq_four hop, idField, angleField, encodeIA]
  simp [extractLsb'_or, extractLsb'_fieldAt_self, extractLsb'_fieldAt_disjoint]

theorem decode_encodeLA (l : Line) (a : Degrees) : decode (encodeLA 0x5#4 l a) = .setangleLine l a := by
  have hop : opField (encodeLA 0x5#4 l a) = 5 :=
    (((CleanWord.opcode 0x5#4).or_fieldAt (lineBits l) 16).or_fieldAt a 0).opField_eq
  rw [decode_of_opField_eq_five hop, lineField, angleField, encodeLA]
  simp [extractLsb'_or, extractLsb'_fieldAt_self, extractLsb'_fieldAt_disjoint, lineBits]

/-- A word that the encoder writes is decoded to the operation it was written for. -/
theorem decode_of_encode_eq_some {i : Instr} {w : CmdWord} (h : encode i = some w) : decode w = i := by
  cases i with
  | register l => obtain rfl := Option.some.inj h; exact decode_encodeL l
  | setpulseId id t => obtain rfl := Option.some.inj h; exact decode_encodeIT id t
  | setpulseLine l t => obtain rfl := Option.some.inj h; exact decode_encodeLT l t
  | setangleId id a => obtain rfl := Option.some.inj h; exact decode_encodeIA id a
  | setangleLine l a => obtain rfl := Option.some.inj h; exact decode_encodeLA l a
  | reserved0 | reserved6 | reserved7 | reserved8 | reserved9 | reservedA | reservedB | reservedC | reservedD
  | reservedE | reservedF => obtain rfl := Option.some.inj h; rfl
  | _ => exact nomatch h

/-- The operations of the command port are those that have a word (R54). -/
theorem wellFormed_eq_isSome_encode (i : Instr) : i.wellFormed = (encode i).isSome := by
  cases i <;> rfl

/-- Settles O20: a well-formed operation has a word, which is decoded to it. -/
theorem decodeInvertsEncode : Obligations.DecodeInvertsEncode := by
  refine ⟨fun i hi => ?_, fun i hi => ?_⟩ <;> rw [wellFormed_eq_isSome_encode] at hi
  · obtain ⟨w, hw⟩ := Option.isSome_iff_exists.1 hi
    exact ⟨w, hw, decode_of_encode_eq_some hw⟩
  · exact Option.isNone_iff_eq_none.1 (Option.isSome_eq_false_iff.1 hi)

/-! ### From the word to the operation and back -/

/-- The word with the `n` bits from `lo` up set; `fieldAt_extractLsb'` says which part of a word it covers. -/
def fieldMask (lo n : Nat) : CmdWord := fieldAt (BitVec.allOnes n) lo

/-- A field written back where it was read is the word under the field's mask. -/
theorem fieldAt_extractLsb' (w : CmdWord) (lo n : Nat) :
    fieldAt (w.extractLsb' lo n) lo = w &&& fieldMask lo n := by
  apply BitVec.eq_of_getLsbD_eq
  intro i hi
  by_cases hlo : i < lo
  · simp [fieldMask, fieldAt, hlo]
  · simp [fieldMask, fieldAt, hi, hlo, Nat.add_sub_cancel' (Nat.le_of_not_lt hlo), Bool.and_comm]

/-- The line of a word, written back. -/
theorem fieldAt_lineBits_lineField (w : CmdWord) :
    fieldAt (lineBits (lineField w)) 16 = w &&& fieldMask 16 5 :=
  fieldAt_extractLsb' w 16 5

/-- The opcode of a word, written back. -/
theorem fieldAt_opcode {w : CmdWord} {op : BitVec 4} (h : opField w = op.toFin) :
    fieldAt op 28 = w &&& fieldMask 28 4 := by
  have hop : w.extractLsb' 28 4 = op := BitVec.toFin_inj.1 h
  rw [← fieldAt_extractLsb', hop]

/-- The significant bits of a format are the opcode's and those of its operand fields (R51). -/
theorem significantBits_eq_fields :
    significantBits 1 = fieldMask 28 4 ||| fieldMask 16 5 ∧
    significantBits 2 = fieldMask 28 4 ||| fieldMask 16 8 ||| fieldMask 0 16 ∧
    significantBits 3 = fieldMask 28 4 ||| fieldMask 16 5 ||| fieldMask 0 16 ∧
    significantBits 4 = fieldMask 28 4 ||| fieldMask 16 8 ||| fieldMask 0 8 ∧
    significantBits 5 = fieldMask 28 4 ||| fieldMask 16 5 ||| fieldMask 0 8 ∧
    ∀ op, op = 0 ∨ 6 ≤ op → significantBits op = fieldMask 28 4 := by
  decide

/-- A word of a reserved opcode keeps its opcode only. -/
theorem encodeReserved_eq {w : CmdWord} {op : BitVec 4} (h : opField w = op.toFin)
    (hres : op.toFin = 0 ∨ 6 ≤ op.toFin := by decide) :
    some (encodeReserved op) = some (w &&& significantBits (opField w)) := by
  obtain ⟨-, -, -, -, -, hbits⟩ := significantBits_eq_fields
  rw [h, hbits _ hres, encodeReserved, fieldAt_opcode h]

/-- What the decoder reads of a word is written back to where it stood: the word under the masks of its fields. -/
theorem encode_decode (w : CmdWord) : encode (decode w) = some (w &&& significantBits (opField w)) := by
  obtain ⟨hbits1, hbits2, hbits3, hbits4, hbits5, -⟩ := significantBits_eq_fields
  have hline := fieldAt_lineBits_lineField w
  have hid : fieldAt (idField w) 16 = _ := fieldAt_extractLsb' w 16 8
  have hticks : fieldAt (ticksField w) 0 = _ := fieldAt_extractLsb' w 0 16
  have hangle : fieldAt (angleField w) 0 = _ := fieldAt_extractLsb' w 0 8
  unfold decode
  split
  case h_2 h =>
    rw [encode, encodeL, fieldAt_opcode (op := 0x1#4) h, hline, h, hbits1]
    simp only [BitVec.and_or_distrib_left]
  case h_3 h =>
    rw [encode, encodeIT, fieldAt_opcode (op := 0x2#4) h, hid, hticks, h, hbits2]
    simp only [BitVec.and_or_distrib_left]
  case h_4 h =>
    rw [encode, encodeLT, fieldAt_opcode (op := 0x3#4) h, hline, hticks, h, hbits3]
    simp only [BitVec.and_or_distrib_left]
  case h_5 h =>
    rw [encode, encodeIA, fieldAt_opcode (op := 0x4#4) h, hid, hangle, h, hbits4]
    simp only [BitVec.and_or_distrib_left]
  case h_6 h =>
    rw [encode, encodeLA, fieldAt_opcode (op := 0x5#4) h, hline, hangle, h, hbits5]
    simp only [BitVec.and_or_distrib_left]
  case h_16 =>
    have h : opField w = 15 := by grind
    exact encodeReserved_eq h
  all_goals
    next h => exact encodeReserved_eq h

/-- Settles O21: the decoder answers operations that have a word, and that word has the fields it read. -/
theorem encodeInvertsDecodeUpToReservedBits : Obligations.EncodeInvertsDecodeUpToReservedBits :=
  fun w => ⟨decode_wellFormed w, encode_decode w⟩

/-- Settles O22: nine words, each decoded. -/
theorem sampleWordsDecode : Obligations.SampleWordsDecode := by
  refine ⟨?_, ?_, ?_, ?_, ?_, ?_, ?_, ?_, ?_⟩ <;> rfl

end Sys2Proof
end

section
/-! Frames of the operations and of the cycle (R29): the configuration and the model's own fields, the columns of the
width commands, and those of the timer and the interrupt context. -/

namespace Sys2Proof.Machine

/-! ### The model's own fields -/

/-- A cycle changes neither the configuration nor the coming inputs nor the cycle number: `step` has taken the pins. -/
theorem cycleEffect_modelFields (p : CycleIn) (s : State) :
    (cycleEffect p s).params = s.params ∧ (cycleEffect p s).inputs = s.inputs ∧
      (cycleEffect p s).cycle = s.cycle := by
  have hphase (b : Bool) (i : Instr) (u : State) : (phaseEffect b i u).params = u.params ∧
      (phaseEffect b i u).inputs = u.inputs ∧ (phaseEffect b i u).cycle = u.cycle := by
    cases b with
    | true => exact effect_modelFields i u
    | false => exact ⟨rfl, rfl, rfl⟩
  cases hr : p.rst with
  | true => rw [cycleEffect_of_rst hr]; exact ⟨rfl, rfl, rfl⟩
  | false =>
    obtain ⟨htp, hti, htc⟩ := hphase p.tickEn .tick s.dropStrobes
    obtain ⟨hdp, hdi, hdc⟩ := effect_modelFields .dispatch (phaseEffect p.tickEn .tick s.dropStrobes)
    obtain ⟨hcp, hci, hcc⟩ := hphase p.cmdValid (decode p.cmdWord) (beforeCommand p s)
    rw [cycleEffect_eq_phases hr]
    exact ⟨hcp.trans (hdp.trans htp), hci.trans (hdi.trans hti), hcc.trans (hdc.trans htc)⟩

/-- A step keeps the configuration, takes the pins and counts the cycle. -/
theorem step_modelFields {s t : State} (h : step s = .next t) :
    t.params = s.params ∧ t.inputs = s.inputs.tail ∧ t.cycle = s.cycle + 1 := by
  obtain ⟨-, rfl⟩ := step_eq_next_iff.1 h
  exact cycleEffect_modelFields s.pins s.takePins

theorem configured_step {s t : State} (hs : s.Configured) (h : step s = .next t) : t.Configured := by
  rw [State.Configured, (step_modelFields h).1]
  exact hs

/-- Settles O5: the effect of an operation keeps the configuration, and so does the effect of a cycle. -/
theorem configurationNeverChanges : Obligations.ConfigurationNeverChanges := by
  rintro s t (⟨i, hexec⟩ | hstep)
  · obtain ⟨-, rfl⟩ := exec_eq_next_iff.1 hexec
    exact (effect_modelFields i s).1
  · exact (step_modelFields hstep).1

/-! ### The width commands -/

/-- Settles O16: all four are operations of the command port and none is a `REGISTER`. -/
theorem widthCommandsKeepThePulseInProgress : Obligations.WidthCommandsKeepThePulseInProgress := by
  intro s t id line ticks deg h
  have hwidths {i : Instr} (hexec : exec i s = .next t) (hi : i.wellFormed = true) (hne : ∀ l, i ≠ .register l) :
      s.SameButWidths t ∧ ∀ j : ChannelIndex, s.count.val ≤ j.val → t.reg[j] = s.reg[j] := by
    obtain ⟨-, rfl⟩ := exec_eq_next_iff.1 hexec
    exact (effect_command_cases hi s).resolve_left fun ⟨l, hl⟩ => hne l hl
  rcases h with h | h | h | h <;> exact hwidths h rfl (fun _ => nofun)

/-! ### The timer and the interrupt context -/

/-- Settles O37: each of the three has a frame that the registry, the lines' directions and the response lie outside. -/
theorem schedulerNeverWritesTheRegistry : Obligations.SchedulerNeverWritesTheRegistry := by
  rintro s t (h | h | h) <;> obtain ⟨-, rfl⟩ := exec_eq_next_iff.1 h
  · rw [effect, State.tick_frame]
    exact ⟨rfl, rfl, rfl, rfl, rfl, rfl, rfl⟩
  · rw [effect, State.dispatch_frame]
    exact ⟨rfl, rfl, rfl, rfl, rfl, rfl, rfl⟩
  · rw [effect, State.schedulerStep_frame]
    exact ⟨rfl, rfl, rfl, rfl, rfl, rfl, rfl⟩

end Sys2Proof.Machine
end

section
/-! The invariants I1 to I7 (R28): reset establishes them, each phase of a cycle keeps them. -/

namespace Sys2Proof.Machine

namespace State

/-- What a registration with room does to the registry and the lines: the entry it adds is on the line, which becomes a
low output (R75). -/
theorem registry_register_of_room (s : State) (line : Line) (hroom : s.count.val < 9) :
    (s.register line).count.val = s.count.val + 1 ∧
      ((s.register line).reg[(⟨s.count.val, hroom⟩ : ChannelIndex)]).line = line ∧
      (∀ j : ChannelIndex, j.val < s.count.val → ((s.register line).reg[j]).line = (s.reg[j]).line) ∧
      (∀ l : Line, (s.register line).dir[l] = true ↔ l = line ∨ s.dir[l] = true) ∧
      ∀ l : Line, (s.register line).level[l] = true ↔ l ≠ line ∧ s.level[l] = true := by
  have hkept := (s.keepsRegistrations_register line).line_eq
  rw [s.register_of_room line (i := ⟨s.count.val, hroom⟩) rfl] at *
  refine ⟨rfl, by simp, hkept, fun l => ?_, fun l => ?_⟩
  · change (s.configureAsOutput line).dir[l] = true ↔ _
    rw [getElem_dir_configureAsOutput]
    simp
  · change (s.setLine line false).level[l] = true ↔ _
    rw [getElem_level_setLine]
    simp

/-! ### The reset state -/

/-- After a reset every entry of the registry and of the line vectors is 0 (R32). -/
theorem getElem_clearAll (s : State) :
    (∀ i : ChannelIndex, s.clearAll.reg[i] = ⟨0, 0#16⟩) ∧ (∀ l : Line, s.clearAll.dir[l] = false) ∧
      ∀ l : Line, s.clearAll.level[l] = false :=
  ⟨fun i => Vector.getElem_replicate i.isLt, fun l => Vector.getElem_replicate l.isLt,
    fun l => Vector.getElem_replicate l.isLt⟩

/-- Reset establishes the invariants from any state (R129). -/
theorem inv_clearAll (s : State) : s.clearAll.Inv := by
  obtain ⟨-, hdir, hlevel⟩ := s.getElem_clearAll
  exact {
    count_le := Nat.zero_le _
    armed_iff := ⟨nofun, nofun⟩
    cursor_lt := nofun
    inert := fun _ => ⟨rfl, rfl, rfl, rfl, hlevel⟩
    dir_iff := fun l => ⟨fun h => absurd ((hdir l).symm.trans h) nofun, fun ⟨_, h, _⟩ => nomatch h⟩
    level_high := fun l h => absurd ((hlevel l).symm.trans h) nofun
    cmf_clear := rfl }

/-- The state from which the step of a cycle runs, when the cycle's tick reaches the threshold: the pins are taken, the
tick is counted, and the interrupt is entered (R94, R134). `Inv.beforeCommand_cases` says when it is reached. -/
def stepEntry (s : State) : State := { s.takePins.dropStrobes with tcnt := s.tcnt + 1#16, cmStrobe := true }

namespace Inv

variable {s : State}

/-! ### The timer phases -/

/-- A registered block is armed, and only such a block is (I2). -/
theorem registered (hi : s.Inv) (ha : s.armed = true) : 1 ≤ s.count.val := hi.armed_iff.1 ha

/-- A block without a channel is not armed (I2). -/
theorem not_armed_of_count (hi : s.Inv) (hc : s.count.val = 0) : s.armed = false := by
  rw [← Bool.not_eq_true, hi.armed_iff]
  omega

/-- The invariants do not speak of the pins and the one-cycle outputs. -/
theorem beginCycle (hi : s.Inv) : s.takePins.dropStrobes.Inv := { hi with }

theorem stepEntry (hi : s.Inv) (ha : s.armed = true) : s.stepEntry.Inv :=
  { hi with inert := fun h => absurd (ha.symm.trans h) nofun }

/-- The count is free once the timer is armed. -/
theorem setCount (hi : s.Inv) (ha : s.armed = true) (n : Ticks) : (s.setCount n).Inv :=
  { hi with inert := fun h => absurd (ha.symm.trans h) nofun }

/-- A cycle before its command: without the arming nothing runs; a tick short of the threshold counts, and the tick that
reaches it runs a step (R134). -/
theorem beforeCommand_cases (hi : s.Inv) (p : CycleIn) :
    (s.armed = false ∧ beforeCommand p s.takePins = s.takePins.dropStrobes) ∨
    (s.armed = true ∧ p.tickEn.toNat < ticksUntil s.tcnt s.ocr ∧
      beforeCommand p s.takePins =
        { s.takePins.dropStrobes with tcnt := s.tcnt + BitVec.ofNat 16 p.tickEn.toNat }) ∨
    (s.armed = true ∧ p.tickEn.toNat = ticksUntil s.tcnt s.ocr ∧
      beforeCommand p s.takePins = s.stepEntry.schedulerStep) := by
  cases ha : s.armed with
  | false => exact .inl ⟨rfl, beforeCommand_of_not_armed p (s := s.takePins) ha⟩
  | true =>
    refine .inr ?_
    rcases Nat.lt_or_ge p.tickEn.toNat (ticksUntil s.tcnt s.ocr) with hshort | hlast
    · exact .inl ⟨rfl, hshort, hi.beginCycle.dispatch_of_short ha hshort⟩
    · have hpos := one_le_ticksUntil s.tcnt s.ocr
      have htick : p.tickEn = true := by
        cases hp : p.tickEn with
        | true => rfl
        | false => simp [hp] at hlast; omega
      have hone : ticksUntil s.tcnt s.ocr = 1 := by simp [htick] at hlast; omega
      refine .inr ⟨rfl, by simp [htick, hone], ?_⟩
      rw [beforeCommand, if_pos htick]
      exact hi.beginCycle.dispatch_of_last ha hone

/-! ### The step -/

/-- After a step only the line of the slot it opened, with a pulse, is high: closing left every line low. -/
theorem level_schedulerStep (hi : s.Inv) (l : Line) :
    s.schedulerStep.level[l] = true ↔
      ∃ i : ChannelIndex, s.schedulerStep.cursor = some i ∧ (s.reg[i]).line = l ∧ (s.reg[i]).width ≠ 0#16 := by
  have hlow := hi.level_closeSlot l
  have hreg : s.closeSlot.2.reg = s.reg := by rw [closeSlot_snd]
  rcases s.schedulerStep_cases with ⟨i, -, -, e⟩ | ⟨-, e⟩ <;> rw [e]
  · rw [level_openSlot, (cursor_tcnt_openSlot _ i).1, hlow, hreg]
    simp
  · rw [enterTail_eq]
    simp [hlow]

/-- A step leaves the cursor at a registered channel or at the sentinel. -/
theorem cursor_lt_schedulerStep (s : State) {i : ChannelIndex} (h : s.schedulerStep.cursor = some i) :
    i.val < s.count.val := by
  rcases s.schedulerStep_cases with ⟨j, -, hj, e⟩ | ⟨-, e⟩ <;> rw [e] at h
  · rw [(cursor_tcnt_openSlot _ j).1] at h
    rwa [← Option.some.inj h]
  · rw [enterTail_eq] at h
    exact nomatch h

/-- A step of an armed block keeps the invariants (R96). -/
theorem schedulerStep (hi : s.Inv) (ha : s.armed = true) : s.schedulerStep.Inv := by
  have hlevel := hi.level_schedulerStep
  have hcursor (i : ChannelIndex) := cursor_lt_schedulerStep s (i := i)
  have hframe := s.schedulerStep_frame
  generalize s.schedulerStep = t at *
  rw [hframe]
  exact { hi with
    cursor_lt := hcursor
    inert := fun h => absurd (ha.symm.trans h) nofun
    level_high := fun l hl =>
      let ⟨i, hi, hline, _⟩ := (hlevel l).1 hl
      ⟨i, hi, hcursor i hi, hline⟩ }

theorem beforeCommand (hi : s.Inv) (p : CycleIn) : (beforeCommand p s.takePins).Inv := by
  rcases hi.beforeCommand_cases p with ⟨-, e⟩ | ⟨ha, -, e⟩ | ⟨ha, -, e⟩ <;> rw [e]
  · exact hi.beginCycle
  · exact hi.beginCycle.setCount ha _
  · exact (hi.stepEntry ha).schedulerStep ha

/-! ### The command -/

/-- The invariants do not speak of widths. -/
theorem sameButWidths (hi : s.Inv) {t : State} (h : s.SameButWidths t) : t.Inv := by
  obtain ⟨hframe, hline⟩ := h
  generalize t.reg = r at hframe hline
  subst hframe
  exact { hi with
    dir_iff := fun l => by simpa only [hline] using hi.dir_iff l
    level_high := fun l hl => by simpa only [hline] using hi.level_high l hl }

/-- `REGISTER` keeps the invariants: it configures and lowers the line of the one entry it adds (R75, R77). -/
theorem register (hi : s.Inv) (line : Line) : (s.register line).Inv := by
  by_cases hroom : s.count.val < 9
  · obtain ⟨hcount, hnew, hold, hdir, hlevel⟩ := s.registry_register_of_room line hroom
    obtain ⟨-, hcursor, harmed, -, hcmf⟩ := s.timer_register line
    have harmed : (s.register line).armed = true := by
      rw [harmed, ite_eq_left_iff]
      exact fun h => hi.armed_iff.2 (Nat.pos_of_ne_zero h)
    exact {
      count_le := hcount.trans_le hroom
      armed_iff := ⟨fun _ => by omega, fun _ => harmed⟩
      cursor_lt := fun j hj => by
        have := hi.cursor_lt j (hcursor ▸ hj)
        omega
      inert := fun h => absurd (harmed.symm.trans h) nofun
      dir_iff := fun l => by
        rw [hdir]
        constructor
        · rintro (rfl | h)
          · exact ⟨⟨s.count.val, hroom⟩, by simp [hcount], hnew⟩
          · obtain ⟨j, hj, hline⟩ := (hi.dir_iff l).1 h
            exact ⟨j, by omega, (hold j hj).trans hline⟩
        · rintro ⟨j, hj, hline⟩
          rcases Nat.lt_or_ge j.val s.count.val with hlt | hge
          · exact .inr ((hi.dir_iff l).2 ⟨j, hlt, (hold j hlt).symm.trans hline⟩)
          · obtain rfl : j = ⟨s.count.val, hroom⟩ := Fin.ext (by simp; omega)
            exact .inl (hline.symm.trans hnew)
      level_high := fun l hl => by
        obtain ⟨-, hl⟩ := (hlevel l).1 hl
        obtain ⟨j, hj, hlt, hline⟩ := hi.level_high l hl
        exact ⟨j, hcursor.trans hj, by omega, (hold j hlt).trans hline⟩
      cmf_clear := by rw [hcmf, hi.cmf_clear, ite_self] }
  · rw [s.register_of_full line (by have := s.count.isLt; omega)]
    exact { hi with }

theorem command (hi : s.Inv) (w : CmdWord) : (effect (decode w) s).Inv := by
  rcases effect_command_cases (decode_wellFormed w) s with ⟨line, h⟩ | ⟨hwidths, -⟩
  · rw [h]
    exact hi.register line
  · exact hi.sameButWidths hwidths

/-! ### Cycles -/

/-- A clock cycle keeps the invariants, whatever its pins (R134). -/
theorem cycleEffect (hi : s.Inv) (p : CycleIn) : (cycleEffect p s.takePins).Inv := by
  cases hr : p.rst with
  | true => rw [cycleEffect_of_rst hr]; exact inv_clearAll _
  | false =>
    rw [cycleEffect_eq_phases hr, phaseEffect]
    split
    · exact (hi.beforeCommand p).command _
    · exact hi.beforeCommand p

theorem step (hi : s.Inv) {t : State} (h : step s = .next t) : t.Inv := by
  obtain ⟨-, rfl⟩ := step_eq_next_iff.1 h
  exact hi.cycleEffect _

theorem runCycles (hi : s.Inv) {n : Nat} {t : State} (h : runCycles n s = .next t) : t.Inv := by
  induction n generalizing s with
  | zero => exact Host.Outcome.next.inj h ▸ hi
  | succ n ih =>
    obtain ⟨u, hstep, hrun⟩ := andThen_eq_next_iff.1 h
    exact ih (hi.step hstep) hrun

/-- Two high lines are the line of the one cursor, which is a registered and so a configured one (I5, I6). -/
theorem line_eq_of_high (hi : s.Inv) {l m : Line} (hl : s.level[l] = true) (hm : s.level[m] = true) :
    l = m ∧ s.dir[l] = true := by
  obtain ⟨i, hcur, hlt, hline⟩ := hi.level_high l hl
  obtain ⟨j, hcur', -, hline'⟩ := hi.level_high m hm
  obtain rfl : i = j := Option.some.inj (hcur.symm.trans hcur')
  exact ⟨hline.symm.trans hline', (hi.dir_iff l).2 ⟨i, hlt, hline⟩⟩

end Inv

end State

/-! ### The statements -/

/-- Settles O48: reset, or the phases before the command and then the command, each keep the invariants. -/
theorem everyCycleKeepsInvariants : Obligations.EveryCycleKeepsInvariants :=
  fun _ _ hi hstep => hi.step hstep

/-- Settles O2: the effect of reset, element by element, and a cycle with `rst` runs it whatever its other pins. -/
theorem resetClearsEveryElement : Obligations.ResetClearsEveryElement := by
  intro s hs
  obtain ⟨hreg, hdir, hlevel⟩ := s.getElem_clearAll
  obtain ⟨-, -, -, -, -, -, hocr⟩ := (paramsWellFormed_iff s.params).1 hs
  exact ⟨⟨s.clearAll, exec_of_configured hs .reset, rfl, rfl, rfl, hreg, rfl, Nat.mod_eq_of_lt hocr, rfl, hdir,
    hlevel, rfl, rfl, rfl, rfl, rfl⟩, fun p rest hin hr => (cycleOrdersTickDispatchExec s p rest hs hin).1 hr⟩

/-- Settles O47: `State.reset` is what a reset leaves of itself. -/
theorem resetMeetsInvariants : Obligations.ResetMeetsInvariants :=
  ⟨State.reset.inv_clearAll, by decide⟩

/-- Settles O49: the invariants hold after any run, and they leave room for one high line. -/
theorem atMostOneLineIsEverHigh : Obligations.AtMostOneLineIsEverHigh :=
  fun _ _ _ _ _ hi hrun hl hm => (hi.runCycles hrun).line_eq_of_high hl hm

end Sys2Proof.Machine
end

section
/-! The distance to the threshold: a tick that does not complete it runs no step, whatever the command of its cycle, and
the tick that does runs one (70_reset_and_hazards.md, Forward progress). A pulse is such a wait with its line high. -/

namespace Sys2Proof.Machine

/-! ### The distance -/

/-- Ticks that do not complete the distance lower it by their number. -/
theorem ticksUntil_add_ofNat {t v : Ticks} {n : Nat} (h : n < ticksUntil t v) :
    ticksUntil (t + BitVec.ofNat 16 n) v = ticksUntil t v - n := by
  unfold ticksUntil at *
  rw [BitVec.toNat_add, BitVec.toNat_ofNat]
  split at h <;> split <;> omega

/-- Opening a slot arms its length from the current count, modulo `2^16` (R99, R100). -/
theorem State.ocr_openSlot (s : State) (j : ChannelIndex) :
    (s.openSlot j).ocr = s.tcnt + BitVec.ofNat 16 (slotTicks s.params s.reg[j]) := by
  by_cases hw : (s.reg[j]).width = 0#16
  · rw [s.openSlot_of_skip hw, slotTicks, if_pos hw]
  · rw [s.openSlot_of_pulse hw, slotTicks, if_neg hw, BitVec.ofNat_toNat, BitVec.setWidth_eq]

/-- A step that opens a slot arms its length from the count it leaves. -/
theorem State.ocr_schedulerStep_of_some {s : State} {i : ChannelIndex} (h : s.schedulerStep.cursor = some i) :
    s.schedulerStep.ocr = s.schedulerStep.tcnt + BitVec.ofNat 16 (slotTicks s.params s.reg[i]) := by
  rcases s.schedulerStep_cases with ⟨j, -, -, e⟩ | ⟨-, e⟩ <;> rw [e] at h ⊢
  · obtain ⟨hcursor, htcnt⟩ := s.closeSlot.2.cursor_tcnt_openSlot j
    obtain rfl : j = i := Option.some.inj (hcursor.symm.trans h)
    rw [htcnt, ocr_openSlot, closeSlot_snd]
  · rw [enterTail_eq] at h
    exact nomatch h

/-- A step that enters the tail arms the frame boundary, or the look-ahead from the count it leaves (R101, R102). -/
theorem State.ocr_schedulerStep_of_none {s : State} (h : s.schedulerStep.cursor = none) :
    s.schedulerStep.ocr = if (s.params.frameTicks : Int) - s.schedulerStep.tcnt.toNat > s.params.guardTicks
      then BitVec.ofNat 16 s.params.frameTicks
      else s.schedulerStep.tcnt + BitVec.ofNat 16 s.params.lookaheadTicks := by
  rcases s.schedulerStep_cases with ⟨j, -, -, e⟩ | ⟨-, e⟩ <;> rw [e] at h ⊢
  · rw [(cursor_tcnt_openSlot _ j).1] at h
    exact nomatch h
  · rw [enterTail_eq, closeSlot_snd]

/-! ### A cycle of a registered block -/

/-- The registry is the command's alone: the phases before it leave the entries. -/
theorem State.reg_beforeCommand (p : CycleIn) (s : State) : (beforeCommand p s).reg = s.reg := by
  rw [beforeCommand, dispatch_frame]
  split
  · exact (congrArg State.reg s.dropStrobes.tick_frame :)
  · rfl

/-- What a cycle's command does to the lines of a registered block: the entries it finds keep theirs, and the one level
it may write is the low one of a `REGISTER`. -/
theorem lines_cycleEffect_of_registered {p : CycleIn} (hr : p.rst = false) {s : State} (hc : 1 ≤ s.count.val) :
    (∀ j : ChannelIndex, j.val < s.count.val → ((cycleEffect p s).reg[j]).line = (s.reg[j]).line) ∧
      ∀ l : Line, (cycleEffect p s).level[l] = (beforeCommand p s).level[l] ∨
        (p.cmdValid = true ∧ decode p.cmdWord = .register l) ∧ (cycleEffect p s).level[l] = false := by
  rw [← s.count_beforeCommand p] at hc ⊢
  rw [← s.reg_beforeCommand p]
  cases hv : p.cmdValid with
  | true =>
    rw [cycleEffect_of_cmdValid hr hv]
    obtain ⟨-, -, hline, hlevel⟩ := effect_command_of_registered (decode_wellFormed p.cmdWord) hc
    exact ⟨hline, fun l => (hlevel l).imp_right fun ⟨hd, hlow⟩ => ⟨⟨rfl, hd⟩, hlow⟩⟩
  | false =>
    rw [cycleEffect_of_not_cmdValid hr hv]
    exact ⟨fun _ _ => rfl, fun _ => .inl rfl⟩

namespace State.Inv

variable {s t : State} {c : Option ChannelIndex} {v : Ticks} {left : Nat}

theorem beforeCommand_of_short (hi : s.Inv) (h : s.Awaits c v left) {p : CycleIn} (hshort : p.tickEn.toNat < left) :
    Machine.beforeCommand p s.takePins =
      { s.takePins.dropStrobes with tcnt := s.tcnt + BitVec.ofNat 16 p.tickEn.toNat } := by
  obtain ⟨harmed, -, rfl, rfl⟩ := h
  exact hi.beginCycle.dispatch_of_short harmed hshort

theorem beforeCommand_of_last (hi : s.Inv) (h : s.Awaits c v left) {p : CycleIn} (hlast : p.tickEn.toNat = left) :
    Machine.beforeCommand p s.takePins = s.stepEntry.schedulerStep := by
  obtain ⟨harmed, -, rfl, rfl⟩ := h
  rcases hi.beforeCommand_cases p with ⟨hno, -⟩ | ⟨-, hlt, -⟩ | ⟨-, -, e⟩
  · exact absurd (harmed.symm.trans hno) nofun
  · omega
  · exact e

/-- A cycle that does not complete the distance keeps the wait, `CURSOR` and `OCR`, and counts its tick. -/
theorem awaits_step (hi : s.Inv) (h : s.Awaits c v left) (hr : s.pins.rst = false)
    (hshort : s.pins.tickEn.toNat < left) (hstep : Machine.step s = .next t) :
    t.Awaits c v (left - s.pins.tickEn.toNat) ∧ t.cmStrobe = false ∧
      t.tcnt = s.tcnt + BitVec.ofNat 16 s.pins.tickEn.toNat ∧ s.count.val ≤ t.count.val := by
  obtain ⟨-, rfl⟩ := step_eq_next_iff.1 hstep
  obtain ⟨hframe, hcount⟩ := cycleEffect_of_registered hr (s := s.takePins) (hi.registered h.armed)
  rw [hi.beforeCommand_of_short h hshort] at hframe
  generalize Machine.cycleEffect s.pins s.takePins = t at *
  obtain ⟨harmed, hcursor, rfl, rfl⟩ := h
  rw [hframe]
  exact ⟨⟨harmed, hcursor, rfl, ticksUntil_add_ofNat hshort⟩, rfl, rfl, hcount⟩

/-- A cycle that does not complete the distance keeps the lines of the entries it finds, and writes no level but the low
one of its `REGISTER`. -/
theorem lines_step_of_short (hi : s.Inv) (h : s.Awaits c v left) (hr : s.pins.rst = false)
    (hshort : s.pins.tickEn.toNat < left) (hstep : Machine.step s = .next t) :
    (∀ j : ChannelIndex, j.val < s.count.val → (t.reg[j]).line = (s.reg[j]).line) ∧
      ∀ l : Line, t.level[l] = s.level[l] ∨
        (s.pins.cmdValid = true ∧ decode s.pins.cmdWord = .register l) ∧ t.level[l] = false := by
  obtain ⟨-, rfl⟩ := step_eq_next_iff.1 hstep
  have hlines := lines_cycleEffect_of_registered hr (s := s.takePins) (hi.registered h.armed)
  rwa [hi.beforeCommand_of_short h hshort] at hlines

/-- The cycle whose tick completes the distance runs the step, and no command takes back its cursor or strobe. -/
theorem step_of_last (hi : s.Inv) (h : s.Awaits c v left) (hr : s.pins.rst = false)
    (hlast : s.pins.tickEn.toNat = left) (hstep : Machine.step s = .next t) :
    t.cmStrobe = true ∧ t.cursor = s.stepEntry.schedulerStep.cursor := by
  obtain ⟨-, rfl⟩ := step_eq_next_iff.1 hstep
  obtain ⟨hframe, -⟩ := cycleEffect_of_registered hr (s := s.takePins) (hi.registered h.armed)
  rw [hi.beforeCommand_of_last h hlast] at hframe
  rw [hframe]
  exact ⟨congrArg State.cmStrobe (State.schedulerStep_frame _), rfl⟩

/-! ### Pulses -/

variable {i : ChannelIndex} {line : Line}

/-- The step that opens a slot of nonzero width opens a pulse: its line alone is high, for the stored width (R99). -/
theorem openPulse_schedulerStep (hi : s.Inv) (ha : s.armed = true) (hcur : s.schedulerStep.cursor = some i)
    (hw : (s.reg[i]).width ≠ 0#16) : s.schedulerStep.OpenPulse i (s.reg[i]).line (s.reg[i]).width.toNat := by
  have hframe := s.schedulerStep_frame
  have hocr := State.ocr_schedulerStep_of_some hcur
  rw [slotTicks, if_neg hw, BitVec.ofNat_toNat, BitVec.setWidth_eq] at hocr
  refine ⟨⟨by rw [hframe]; exact ha, hcur, rfl, by rw [hocr, ticksUntil_add _ hw]⟩, by rw [hframe], fun l => ?_⟩
  refine (hi.level_schedulerStep l).trans ⟨fun ⟨j, hj, hline, _⟩ => ?_, fun hl => ⟨i, hcur, hl.symm, hw⟩⟩
  obtain rfl : i = j := Option.some.inj (hcur.symm.trans hj)
  exact hline.symm

/-- A cycle before the last tick, with no `REGISTER` of its line, keeps a pulse open (R104). -/
theorem openPulse_step (hi : s.Inv) (h : s.OpenPulse i line left) (hr : s.pins.rst = false)
    (hcmd : s.pins.cmdValid = true → decode s.pins.cmdWord ≠ .register line)
    (hshort : s.pins.tickEn.toNat < left) (hstep : Machine.step s = .next t) :
    t.OpenPulse i line (left - s.pins.tickEn.toNat) := by
  obtain ⟨hawaits, -⟩ := hi.awaits_step h.awaits hr hshort hstep
  obtain ⟨hline, hlevel⟩ := hi.lines_step_of_short h.awaits hr hshort hstep
  refine ⟨{ hawaits with ocr_eq := rfl, left_eq := hawaits.ocr_eq ▸ hawaits.left_eq },
    (hline i (hi.cursor_lt i h.awaits.cursor_eq)).trans h.on_line, fun l => ?_⟩
  rcases hlevel l with hkept | ⟨⟨hv, hd⟩, hlow⟩
  · rw [hkept, h.high_iff]
  · rw [hlow]
    exact ⟨nofun, fun hl => absurd (hl ▸ hd) (hcmd hv)⟩

end State.Inv

/-! ### The statements -/

/-- Settles O54: a short cycle keeps the wait, and its command raises no line; the last tick's dispatch raises the
strobe, which no command lowers. -/
theorem cycleShortOfTheThresholdRunsNoStep : Obligations.CycleShortOfTheThresholdRunsNoStep := by
  intro s t c v left hi h hr hstep
  refine ⟨fun hshort => ?_, fun hlast => (hi.step_of_last h hr hlast hstep).1⟩
  obtain ⟨hawaits, hstrobe, -, hcount⟩ := hi.awaits_step h hr hshort hstep
  obtain ⟨hline, hlevel⟩ := hi.lines_step_of_short h hr hshort hstep
  exact ⟨hawaits, hstrobe, hcount, hline, fun l hlow => (hlevel l).elim (·.trans hlow) And.right⟩

/-- Settles O55: the opening step, and the cycles between it and the last tick. -/
theorem pulseStaysOpenUntilItsLastTick : Obligations.PulseStaysOpenUntilItsLastTick := by
  intro s t i hi
  refine ⟨fun ha hexec hcur hw => ?_, fun line left h hr hcmd hshort hstep =>
    hi.openPulse_step h hr hcmd hshort hstep⟩
  obtain ⟨-, rfl : t = s.schedulerStep⟩ := exec_eq_next_iff.1 hexec
  have hreg : s.schedulerStep.reg = s.reg := by rw [State.schedulerStep_frame]
  rw [hreg] at hw ⊢
  exact hi.openPulse_schedulerStep ha hcur hw

end Sys2Proof.Machine
end

section
/-! Runs of cycles short of a threshold: the wait for the next step and the open pulse, each carried over a list of
cycles by its step lemma (70_reset_and_hazards.md, Forward progress; 44_scheduler_step.md, Pulse shape). -/

namespace Sys2Proof.Machine

/-- What every cycle keeps whose tick stays below `bound` holds at the end of a run of such cycles, with the ticks
counted on. -/
theorem runCycles_of_short {M : State → Nat → Prop} {Q : CycleIn → Prop} {bound : Nat}
    (hM : ∀ s k p rest, M s k → s.inputs = p :: rest → Q p → k + p.tickEn.toNat < bound →
      ∃ t, step s = .next t ∧ M t (k + p.tickEn.toNat) ∧ t.inputs = rest)
    {s : State} {k : Nat} (h : M s k) {ps rest : List CycleIn} (hin : s.inputs = ps ++ rest) (hQ : ∀ p ∈ ps, Q p)
    (hshort : k + ps.countP (·.tickEn) < bound) :
    ∃ t, runCycles ps.length s = .next t ∧ M t (k + ps.countP (·.tickEn)) ∧ t.inputs = rest := by
  induction ps generalizing s k with
  | nil => exact ⟨s, rfl, h, hin⟩
  | cons p ps ih =>
    have hcount : k + (p :: ps).countP (·.tickEn) = k + p.tickEn.toNat + ps.countP (·.tickEn) := by
      cases hp : p.tickEn <;> simp [hp, Nat.add_assoc, Nat.add_comm]
    rw [hcount] at hshort ⊢
    obtain ⟨hQp, hQps⟩ := List.forall_mem_cons.1 hQ
    obtain ⟨u, hstep, hu, hinu⟩ := hM s k p _ h hin hQp (Nat.lt_of_le_of_lt (Nat.le_add_right _ _) hshort)
    rw [List.length_cons, runCycles, hstep]
    exact ih hu hinu hQps hshort

/-! ### The wait for the next step -/

/-- `t` comes from `s` by `k` ticks, fewer than the distance to the threshold, and no step. Before the first cycle, told
by its inputs, the strobe of an earlier step may still stand. -/
structure State.WaitedFrom (s t : State) (k : Nat) : Prop where
  configured : t.Configured
  inv : t.Inv
  awaits : t.Awaits s.cursor s.ocr (ticksUntil s.tcnt s.ocr - k)
  tcnt_eq : t.tcnt = s.tcnt + BitVec.ofNat 16 k
  strobe_low : t.cmStrobe = false ∨ t.inputs = s.inputs
  low_stays : ∀ l : Line, s.level[l] = false → t.level[l] = false

theorem State.WaitedFrom.refl {s : State} (hs : s.Configured) (hi : s.Inv) (ha : s.armed = true) :
    s.WaitedFrom s 0 where
  configured := hs
  inv := hi
  awaits := ⟨ha, rfl, rfl, rfl⟩
  tcnt_eq := (BitVec.add_zero _).symm
  strobe_low := .inr rfl
  low_stays _ := id

theorem State.WaitedFrom.step {s t : State} {k : Nat} (h : s.WaitedFrom t k) {p : CycleIn} {rest : List CycleIn}
    (hin : t.inputs = p :: rest) (hr : p.rst = false) (hshort : k + p.tickEn.toNat < ticksUntil s.tcnt s.ocr) :
    ∃ u, step t = .next u ∧ s.WaitedFrom u (k + p.tickEn.toNat) ∧ u.inputs = rest := by
  have hstep := step_of_configured h.configured
  rw [← pins_of_cons hin] at hr hshort ⊢
  have hshort := Nat.lt_sub_of_add_lt (Nat.add_comm k _ ▸ hshort)
  obtain ⟨hawaits, hstrobe, htcnt, -⟩ := h.inv.awaits_step h.awaits hr hshort hstep
  obtain ⟨-, hlevel⟩ := h.inv.lines_step_of_short h.awaits hr hshort hstep
  refine ⟨_, hstep, {
    configured := configured_step h.configured hstep
    inv := h.inv.step hstep
    awaits := by rw [Nat.sub_add_eq]; exact hawaits
    tcnt_eq := by rw [htcnt, h.tcnt_eq, BitVec.add_assoc, BitVec.ofNat_add]
    strobe_low := .inl hstrobe
    low_stays := fun l hlow => (hlevel l).elim (·.trans (h.low_stays l hlow)) And.right },
    (step_modelFields hstep).2.1.trans (congrArg List.tail hin)⟩

/-- Settles O50: the wait is carried over the cycles; at its last tick the step runs. -/
theorem nextStepComesExactlyWhenArmed : Obligations.NextStepComesExactlyWhenArmed := by
  intro s ps rest hs hi ha hin hr hshort
  obtain ⟨t, hrun, h, hint⟩ := runCycles_of_short (M := s.WaitedFrom) (fun t k p rest h => h.step)
    (.refl hs hi ha) hin hr (by rwa [Nat.zero_add])
  rw [Nat.zero_add] at h
  refine ⟨t, hrun, hint, h.tcnt_eq, h.awaits.cursor_eq, h.awaits.ocr_eq, h.awaits.armed, h.inv.cmf_clear,
    fun hne => ?_, h.low_stays, fun p hp hrp htick hlast => ?_⟩
  · refine h.strobe_low.resolve_right fun e => hne ?_
    rwa [hint, hin, List.self_eq_append_left] at e
  · obtain ⟨rest', rfl⟩ := List.head?_eq_some_iff.1 hp
    rw [← State.pins_of_cons hint] at hrp htick
    have hstep := step_of_configured h.configured
    have hlast : t.pins.tickEn.toNat = ticksUntil s.tcnt s.ocr - ps.countP (·.tickEn) := by
      rw [htick, ← hlast, Nat.add_sub_cancel_left, Bool.toNat_true]
    exact ⟨_, hstep, (h.inv.step_of_last h.awaits hrp hlast hstep).1⟩

/-! ### The open pulse -/

/-- The cursor moves on to the next registered channel, or, after the last one, to the sentinel (R96). -/
theorem State.cursor_schedulerStep_of_some {s : State} {i : ChannelIndex} (h : s.cursor = some i) :
    s.schedulerStep.cursor =
      if h : i.val + 1 < s.count.val then some ⟨i.val + 1, by have := s.count.isLt; omega⟩ else none := by
  split
  · next hlt =>
    rw [s.schedulerStep_of_lt (j := ⟨i.val + 1, by have := s.count.isLt; omega⟩) (s.closeSlot_of_some h) hlt]
    exact (cursor_tcnt_openSlot _ _).1
  · next hge =>
    rw [s.schedulerStep_of_le (s.closeSlot_of_some h) (Nat.le_of_not_lt hge), enterTail_eq]

/-- The cycle whose tick completes the distance leaves the lines as the step drives them, but for its `REGISTER`. -/
theorem State.Inv.level_step_of_last {s t : State} {c : Option ChannelIndex} {v : Ticks} {left : Nat} (hi : s.Inv)
    (h : s.Awaits c v left) (hr : s.pins.rst = false) (hlast : s.pins.tickEn.toNat = left) {line : Line}
    (hcmd : s.pins.cmdValid = true → decode s.pins.cmdWord ≠ .register line) (hstep : Machine.step s = .next t) :
    t.level[line] = true ↔
      ∃ j : ChannelIndex, t.cursor = some j ∧ (s.reg[j]).line = line ∧ (s.reg[j]).width ≠ 0#16 := by
  obtain ⟨-, hcursor⟩ := hi.step_of_last h hr hlast hstep
  obtain ⟨-, rfl⟩ := step_eq_next_iff.1 hstep
  obtain ⟨-, hlevel⟩ := lines_cycleEffect_of_registered hr (s := s.takePins) (hi.registered h.armed)
  have hkept := (hlevel line).resolve_right fun hreg => hcmd hreg.1.1 hreg.1.2
  rw [hkept, hi.beforeCommand_of_last h hlast, hcursor]
  exact (hi.stepEntry h.armed).level_schedulerStep line

/-- `t` is `k` ticks into a pulse of width `w` of channel `i`. -/
structure State.InPulse (i : ChannelIndex) (line : Line) (w : Nat) (t : State) (k : Nat) : Prop where
  configured : t.Configured
  inv : t.Inv
  openPulse : t.OpenPulse i line (w - k)

theorem State.InPulse.step {i : ChannelIndex} {line : Line} {w : Nat} {t : State} {k : Nat}
    (h : InPulse i line w t k) {p : CycleIn} {rest : List CycleIn} (hin : t.inputs = p :: rest)
    (hp : p.rst = false ∧ (p.cmdValid = true → decode p.cmdWord ≠ .register line))
    (hshort : k + p.tickEn.toNat < w) :
    ∃ u, step t = .next u ∧ InPulse i line w u (k + p.tickEn.toNat) ∧ u.inputs = rest := by
  have hstep := step_of_configured h.configured
  rw [← pins_of_cons hin] at hp hshort ⊢
  have hshort := Nat.lt_sub_of_add_lt (Nat.add_comm k _ ▸ hshort)
  refine ⟨_, hstep, {
    configured := configured_step h.configured hstep
    inv := h.inv.step hstep
    openPulse := by rw [Nat.sub_add_eq]; exact h.inv.openPulse_step h.openPulse hp.1 hp.2 hshort hstep },
    (step_modelFields hstep).2.1.trans (congrArg List.tail hin)⟩

/-- Settles O51: the step opens the pulse, the cycles carry it, and the last tick's step closes its slot. -/
theorem pulseIsExactlyAsWideAsStored : Obligations.PulseIsExactlyAsWideAsStored := by
  intro s t i ps rest p hi ha hexec hcur hw hin hps
  obtain ⟨hs, rfl : t = s.schedulerStep⟩ := exec_eq_next_iff.1 hexec
  have hopen : State.InPulse i (s.schedulerStep.reg[i]).line (s.schedulerStep.reg[i]).width.toNat s.schedulerStep 0 :=
    ⟨effect_configured hs .step, hi.schedulerStep ha,
      (pulseStaysOpenUntilItsLastTick s _ i hi).1 ha hexec hcur hw⟩
  have hrun := runCycles_of_short (fun t k p rest h => h.step) hopen hin hps
  rw [Nat.zero_add] at hrun
  refine ⟨fun hshort => ?_, fun hlast hr htick hcmd => ?_⟩
  · obtain ⟨u, hu, h, -⟩ := hrun hshort
    exact ⟨u, hu, h.openPulse.high_iff⟩
  · obtain ⟨u, hu, h, hinu⟩ := hrun (by omega)
    rw [← State.pins_of_cons hinu] at hr htick hcmd
    have hlast : u.pins.tickEn.toNat = (s.schedulerStep.reg[i]).width.toNat - ps.countP (·.tickEn) := by
      rw [htick, ← hlast, Nat.add_sub_cancel_left, Bool.toNat_true]
    have hawaits := h.openPulse.awaits
    have hstep := step_of_configured h.configured
    obtain ⟨hstrobe, hcursor⟩ := h.inv.step_of_last hawaits hr hlast hstep
    exact ⟨u, _, hu, hstep, hstrobe, hcursor.trans (State.cursor_schedulerStep_of_some hawaits.cursor_eq),
      h.inv.level_step_of_last hawaits hr hlast hcmd hstep⟩

end Sys2Proof.Machine
end

section
/-! The frame schedule (R106): each slot begins where the one before it ended, and the step that comes at a slot's end
opens the next slot there, so that a frame has the length of its slots and its tail. -/

namespace Sys2Proof.Machine

namespace State

/-! ### Slots -/

section

variable {s t : State}

theorem slotBegin_of_some {i : ChannelIndex} (h : s.cursor = some i) : s.slotBegin = s.slotSum i.val := by
  rw [slotBegin, h]

theorem slotBegin_of_none (h : s.cursor = none) : s.slotBegin = s.slotSum s.count.val := by
  rw [slotBegin, h]

theorem slotEnd_of_some {i : ChannelIndex} (h : s.cursor = some i) : s.slotEnd = s.slotSum (i.val + 1) := by
  rw [slotEnd, h]

theorem slotEnd_of_none (h : s.cursor = none) : s.slotEnd = s.frameLength := by
  rw [slotEnd, h]

/-- The length of the frame depends on the registered channels and the configuration only. -/
theorem frameLength_congr (hreg : t.reg = s.reg) (hcount : t.count = s.count) (hparams : t.params = s.params) :
    t.frameLength = s.frameLength := by
  rw [frameLength, frameLength, slotSum_congr hreg hparams, hcount, hparams]

/-- No slot ends later than the frame. -/
theorem slotEnd_le_frameLength (hs : s.Configured) (hi : s.Inv) : s.slotEnd ≤ s.frameLength := by
  cases hcur : s.cursor with
  | none => rw [slotEnd_of_none hcur]
  | some i =>
    rw [slotEnd_of_some hcur]
    exact (s.slotSum_mono (hi.cursor_lt i hcur)).trans (slotSum_lt_frameLength hs).le

/-- A slot lies where the registered channels, the configuration and the cursor put it. -/
theorem slot_congr (hreg : t.reg = s.reg) (hcount : t.count = s.count) (hparams : t.params = s.params)
    (hcursor : t.cursor = s.cursor) : t.slotBegin = s.slotBegin ∧ t.slotEnd = s.slotEnd := by
  have hsum := slotSum_congr hreg hparams
  cases hcur : s.cursor with
  | none =>
    rw [hcur] at hcursor
    rw [slotBegin_of_none hcursor, slotBegin_of_none hcur, slotEnd_of_none hcursor, slotEnd_of_none hcur, hsum, hcount]
    exact ⟨rfl, frameLength_congr hreg hcount hparams⟩
  | some i =>
    rw [hcur] at hcursor
    rw [slotBegin_of_some hcursor, slotBegin_of_some hcur, slotEnd_of_some hcursor, slotEnd_of_some hcur]
    exact ⟨hsum _, hsum _⟩

/-- The schedule depends on neither the pins nor the one-cycle outputs nor `DIR` and `CMF`, and the count may be
anywhere in the slot. -/
theorem OnSchedule.congr (h : s.OnSchedule) (hreg : t.reg = s.reg) (hcount : t.count = s.count)
    (hparams : t.params = s.params) (hcursor : t.cursor = s.cursor) (harmed : t.armed = s.armed)
    (hocr : t.ocr = s.ocr) (hlevel : t.level = s.level) (hbegin : s.slotBegin ≤ t.tcnt.toNat)
    (hend : t.tcnt.toNat < s.slotEnd) : t.OnSchedule := by
  obtain ⟨hslotBegin, hslotEnd⟩ := slot_congr hreg hcount hparams hcursor
  exact {
    armed := harmed.trans h.armed
    no_wrap := by rw [slotSum_congr hreg hparams, hcount, hparams]; exact h.no_wrap
    begin_le := hslotBegin.trans_le hbegin
    lt_end := hslotEnd ▸ hend
    ocr_eq := by rw [hocr, hslotEnd]; exact h.ocr_eq
    high_iff := fun l => by rw [hlevel, hcursor, hreg]; exact h.high_iff l }

/-! ### Steps -/

/-- Slot sums are the same before and after a step. -/
theorem slotSum_schedulerStep (s : State) (n : Nat) : s.schedulerStep.slotSum n = s.slotSum n := by
  apply slotSum_congr <;> rw [schedulerStep_frame]

theorem frameLength_schedulerStep (s : State) : s.schedulerStep.frameLength = s.frameLength := by
  apply frameLength_congr <;> rw [schedulerStep_frame]

/-- A step of an armed block is on schedule when its own slot is: the lines always are. -/
theorem Inv.onSchedule_schedulerStep (hi : s.Inv) (ha : s.armed = true)
    (hwrap : s.slotSum s.count.val + s.params.lookaheadTicks < 2 ^ 16)
    (hbegin : s.schedulerStep.tcnt.toNat = s.schedulerStep.slotBegin)
    (hlt : s.schedulerStep.slotBegin < s.schedulerStep.slotEnd)
    (hocr : s.schedulerStep.ocr.toNat = s.schedulerStep.slotEnd) : s.schedulerStep.OnSchedule where
  armed := by rw [schedulerStep_frame]; exact ha
  no_wrap := by
    rw [slotSum_schedulerStep]
    rw [schedulerStep_frame]
    exact hwrap
  begin_le := hbegin.ge
  lt_end := hbegin.trans_lt hlt
  ocr_eq := hocr
  high_iff l := by
    have hreg : s.schedulerStep.reg = s.reg := by rw [schedulerStep_frame]
    rw [hreg]
    exact hi.level_schedulerStep l

/-- A step that opens a slot at the sum of the slots before it is on schedule: the sum with that slot does not wrap. -/
theorem Inv.onSchedule_of_opens (hi : s.Inv) (ha : s.armed = true) (hs : s.Configured)
    (hwrap : s.slotSum s.count.val + s.params.lookaheadTicks < 2 ^ 16) {j : ChannelIndex}
    (hcur : s.schedulerStep.cursor = some j) (htcnt : s.schedulerStep.tcnt.toNat = s.slotSum j.val) :
    s.schedulerStep.OnSchedule := by
  have hslot := one_le_slotTicks hs s.reg[j]
  have hsum := s.slotSum_succ j
  have hle : s.slotSum (j.val + 1) ≤ _ := s.slotSum_mono (cursor_lt_schedulerStep s hcur)
  have hslotBegin : s.schedulerStep.slotBegin = s.slotSum j.val := by
    rw [slotBegin_of_some hcur, slotSum_schedulerStep]
  have hslotEnd : s.schedulerStep.slotEnd = s.slotSum (j.val + 1) := by
    rw [slotEnd_of_some hcur, slotSum_schedulerStep]
  refine hi.onSchedule_schedulerStep ha hwrap (htcnt.trans hslotBegin.symm) (by omega) ?_
  rw [ocr_schedulerStep_of_some hcur, BitVec.toNat_add, BitVec.toNat_ofNat, hslotEnd, htcnt]
  omega

/-- A step at the sentinel starts a frame on schedule (R98). -/
theorem Inv.onSchedule_frameStart (hi : s.Inv) (ha : s.armed = true) (hs : s.Configured)
    (hwrap : s.slotSum s.count.val + s.params.lookaheadTicks < 2 ^ 16) (hcur : s.cursor = none) :
    s.schedulerStep.OnSchedule ∧ s.schedulerStep.tcnt = 0#16 := by
  have hstep : s.schedulerStep = (s.setCount 0#16).openSlot 0 :=
    s.schedulerStep_of_lt (s.closeSlot_of_none hcur) (hi.registered ha)
  obtain ⟨hcursor, htcnt⟩ := (s.setCount 0#16).cursor_tcnt_openSlot 0
  rw [← hstep] at hcursor htcnt
  exact ⟨hi.onSchedule_of_opens ha hs hwrap hcursor (congrArg BitVec.toNat htcnt), htcnt⟩

/-- A step with a slot open keeps the count (R97). -/
theorem tcnt_schedulerStep_of_some {i : ChannelIndex} (hcur : s.cursor = some i) : s.schedulerStep.tcnt = s.tcnt := by
  rcases s.schedulerStep_cases with ⟨j, -, -, e⟩ | ⟨-, e⟩
  · rw [e, (cursor_tcnt_openSlot _ j).2, closeSlot_of_some s hcur]
    rfl
  · rw [e, enterTail_eq, closeSlot_of_some s hcur]
    rfl

/-- The step at the end of the last slot enters the tail on schedule: its threshold is the frame's length. -/
theorem Inv.onSchedule_tail (hi : s.Inv) (ha : s.armed = true) (hs : s.Configured)
    (hwrap : s.slotSum s.count.val + s.params.lookaheadTicks < 2 ^ 16) {i : ChannelIndex} (hcur : s.cursor = some i)
    (hlast : s.count.val ≤ i.val + 1) (hend : s.tcnt.toNat = s.slotSum s.count.val) :
    s.schedulerStep.OnSchedule := by
  have hcursor : s.schedulerStep.cursor = none := by
    rw [cursor_schedulerStep_of_some hcur, dif_neg (Nat.not_lt.2 hlast)]
  have hcount : s.schedulerStep.count = s.count := by rw [schedulerStep_frame]
  have hslotBegin : s.schedulerStep.slotBegin = s.slotSum s.count.val := by
    rw [slotBegin_of_none hcursor, slotSum_schedulerStep, hcount]
  have hslotEnd : s.schedulerStep.slotEnd = s.frameLength := by
    rw [slotEnd_of_none hcursor, frameLength_schedulerStep]
  have hlt := slotSum_lt_frameLength hs
  have htcnt := tcnt_schedulerStep_of_some hcur
  refine hi.onSchedule_schedulerStep ha hwrap ?_ (by omega) ?_
  · rw [htcnt, hslotBegin, hend]
  · obtain ⟨-, -, hframe, -⟩ := (paramsWellFormed_iff s.params).1 hs
    rw [hslotEnd, ocr_schedulerStep_of_none hcursor, htcnt, apply_ite BitVec.toNat, BitVec.toNat_add,
      BitVec.toNat_ofNat, BitVec.toNat_ofNat, frameLength, hend]
    split <;> split <;> omega

/-- The step at the end of a slot, or of the frame, is on schedule, and takes the count back to 0 at the frame's end
only. -/
theorem Inv.onSchedule_of_slotEnd (hi : s.Inv) (ha : s.armed = true) (hs : s.Configured)
    (hwrap : s.slotSum s.count.val + s.params.lookaheadTicks < 2 ^ 16) (hend : s.tcnt.toNat = s.slotEnd) :
    s.schedulerStep.OnSchedule ∧
      s.schedulerStep.tcnt.toNat = if s.tcnt.toNat = s.frameLength then 0 else s.tcnt.toNat := by
  cases hcur : s.cursor with
  | none =>
    obtain ⟨hsched, htcnt⟩ := hi.onSchedule_frameStart ha hs hwrap hcur
    rw [if_pos (hend.trans (slotEnd_of_none hcur)), htcnt]
    exact ⟨hsched, rfl⟩
  | some i =>
    have htcnt := tcnt_schedulerStep_of_some hcur
    have hlt := hi.cursor_lt i hcur
    rw [slotEnd_of_some hcur] at hend
    have hshort : s.slotSum (i.val + 1) < s.frameLength :=
      (s.slotSum_mono hlt).trans_lt (slotSum_lt_frameLength hs)
    refine ⟨?_, by rw [htcnt, if_neg (hend ▸ hshort.ne)]⟩
    have hcursor := cursor_schedulerStep_of_some hcur
    split at hcursor
    · exact hi.onSchedule_of_opens ha hs hwrap hcursor (htcnt ▸ hend)
    · next hlast =>
      have hcount : s.count.val = i.val + 1 := by omega
      exact hi.onSchedule_tail ha hs hwrap hcur hcount.le (hcount ▸ hend)

end

/-! ### Cycles -/

/-- A cycle that leaves the registry as it is changes after the timer phases nothing but the response. -/
theorem cycleEffect_of_registry_kept {p : CycleIn} (hr : p.rst = false) {s : State}
    (hreg : (cycleEffect p s).reg = s.reg) (hcount : (cycleEffect p s).count = s.count) :
    cycleEffect p s = { beforeCommand p s with rsp := (cycleEffect p s).rsp } := by
  rw [← s.reg_beforeCommand p] at hreg
  rw [← s.count_beforeCommand p] at hcount
  cases hv : p.cmdValid with
  | true =>
    rw [cycleEffect_of_cmdValid hr hv] at *
    exact effect_command_of_registry_kept (decode_wellFormed _) hreg hcount
  | false => rw [cycleEffect_of_not_cmdValid hr hv]

/-- On schedule the distance to the threshold is what is left of the slot. -/
theorem OnSchedule.ticksUntil_eq {s : State} (h : s.OnSchedule) :
    ticksUntil s.tcnt s.ocr = s.slotEnd - s.tcnt.toNat := by
  have hlt := h.lt_end
  rw [← h.ocr_eq] at hlt ⊢
  exact if_pos hlt

/-- The timer phases of a cycle keep the schedule. -/
theorem Inv.onSchedule_beforeCommand {s : State} (hi : s.Inv) (hs : s.Configured) (h : s.OnSchedule) (p : CycleIn) :
    (Machine.beforeCommand p s.takePins).OnSchedule ∧
      (Machine.beforeCommand p s.takePins).tcnt.toNat =
        if s.tcnt.toNat + p.tickEn.toNat = s.frameLength then 0 else s.tcnt.toNat + p.tickEn.toNat := by
  have hleft := h.ticksUntil_eq
  have hlt := h.lt_end
  rcases hi.beforeCommand_cases p with ⟨hno, -⟩ | ⟨-, hshort, e⟩ | ⟨ha, hlast, e⟩
  · exact absurd (h.armed.symm.trans hno) nofun
  · have hocr := h.ocr_eq ▸ s.ocr.isLt
    have htcnt : (s.tcnt + BitVec.ofNat 16 p.tickEn.toNat).toNat = s.tcnt.toNat + p.tickEn.toNat := by
      rw [BitVec.toNat_add, BitVec.toNat_ofNat]
      omega
    have hle := slotEnd_le_frameLength hs hi
    have hbegin := h.begin_le
    rw [e, if_neg (by omega)]
    exact ⟨h.congr rfl rfl rfl rfl rfl rfl rfl (htcnt ▸ by omega) (htcnt ▸ by omega), htcnt⟩
  · have hocr := h.ocr_eq ▸ s.ocr.isLt
    have htick : p.tickEn.toNat = 1 := by have := Bool.toNat_le p.tickEn; omega
    have htcnt : s.stepEntry.tcnt.toNat = s.tcnt.toNat + 1 := by
      rw [State.stepEntry, BitVec.toNat_add, BitVec.toNat_ofNat]
      omega
    obtain ⟨-, hslotEnd⟩ := slot_congr (s := s) (t := s.stepEntry) rfl rfl rfl rfl
    have hwrap : s.stepEntry.slotSum s.count.val + s.params.lookaheadTicks < 2 ^ 16 := by
      rw [slotSum_congr (s := s) (t := s.stepEntry) rfl rfl]
      exact h.no_wrap
    have hstep := (hi.stepEntry ha).onSchedule_of_slotEnd ha hs hwrap (by omega)
    rw [htcnt, frameLength_congr (s := s) (t := s.stepEntry) rfl rfl rfl] at hstep
    rw [e, htick]
    exact hstep

/-- A cycle that leaves the registry as it is keeps the schedule (R106). -/
theorem Inv.onSchedule_step {s t : State} (hi : s.Inv) (h : s.OnSchedule) (hstep : Machine.step s = .next t)
    (hreg : t.reg = s.reg) (hcount : t.count = s.count) :
    t.OnSchedule ∧ t.tcnt.toNat =
      if s.tcnt.toNat + s.pins.tickEn.toNat = s.frameLength then 0 else s.tcnt.toNat + s.pins.tickEn.toNat := by
  obtain ⟨hs, rfl⟩ := step_eq_next_iff.1 hstep
  have hregistered := hi.registered h.armed
  have hr : s.pins.rst = false := by
    rw [← Bool.not_eq_true]
    intro hr
    rw [cycleEffect_of_rst hr] at hcount
    rw [← hcount] at hregistered
    exact nomatch hregistered
  obtain ⟨hsched, htcnt⟩ := hi.onSchedule_beforeCommand hs h s.pins
  rw [cycleEffect_of_registry_kept hr hreg hcount]
  exact ⟨hsched.congr rfl rfl rfl rfl rfl rfl rfl hsched.begin_le hsched.lt_end, htcnt⟩

end State

/-- Settles O56: the frame start, and the cycles after it. -/
theorem everyCycleKeepsTheFrameSchedule : Obligations.EveryCycleKeepsTheFrameSchedule := by
  intro s t hi
  refine ⟨fun ha hcur hexec hwrap => ?_, fun h hstep hreg hcount => ?_⟩
  · obtain ⟨hs, rfl : t = s.schedulerStep⟩ := exec_eq_next_iff.1 hexec
    rw [State.slotSum_schedulerStep, State.schedulerStep_frame] at hwrap
    exact hi.onSchedule_frameStart ha hs hwrap hcur
  · obtain ⟨hsched, htcnt⟩ := hi.onSchedule_step h hstep hreg hcount
    exact ⟨hsched, State.frameLength_congr hreg hcount (step_modelFields hstep).1, htcnt⟩

/-! ### Frames of ticks only -/

/-- A schedule at count 0 is the start of slot 0: later slots, and the tail, begin after at least one tick. -/
theorem State.OnSchedule.cursor_of_tcnt_zero {s : State} (h : s.OnSchedule) (hs : s.Configured) (hi : s.Inv)
    (htcnt : s.tcnt.toNat = 0) : s.cursor = some 0 := by
  have hbegin := h.begin_le
  have hfirst := s.slotSum_succ 0
  have hslot := one_le_slotTicks hs s.reg[(0 : ChannelIndex)]
  have hpos {n : Nat} (hn : 1 ≤ n) : 1 ≤ s.slotSum n := by
    have hle : s.slotSum ((0 : ChannelIndex).val + 1) ≤ s.slotSum n := s.slotSum_mono hn
    omega
  cases hcur : s.cursor with
  | none =>
    rw [slotBegin_of_none hcur] at hbegin
    have := hpos (hi.registered h.armed)
    omega
  | some i =>
    rw [slotBegin_of_some hcur] at hbegin
    by_cases hi0 : i = 0
    · rw [hi0]
    · have := hpos (Nat.pos_of_ne_zero fun e => hi0 (Fin.ext e))
      omega

/-- On schedule, the cursor and the registered channels fix the threshold and the lines. -/
theorem State.OnSchedule.eq_of_cursor_eq {s t : State} (hs : s.OnSchedule) (ht : t.OnSchedule) (hreg : t.reg = s.reg)
    (hcount : t.count = s.count) (hparams : t.params = s.params) (hcursor : t.cursor = s.cursor) :
    t.ocr = s.ocr ∧ t.level = s.level := by
  obtain ⟨-, hslotEnd⟩ := slot_congr hreg hcount hparams hcursor
  refine ⟨BitVec.eq_of_toNat_eq (by rw [ht.ocr_eq, hs.ocr_eq, hslotEnd]), Vector.ext fun n hn => ?_⟩
  have hs := hs.high_iff ⟨n, hn⟩
  have ht := ht.high_iff ⟨n, hn⟩
  rw [hcursor, hreg] at ht
  exact Bool.eq_iff_iff.2 (ht.trans hs.symm)

/-- `t` is `k` ticks into a frame that runs to schedule and began as `s` with the registry of `s`. -/
structure State.InFrame (s t : State) (k : Nat) : Prop where
  configured : t.Configured
  inv : t.Inv
  onSchedule : t.OnSchedule
  reg_eq : t.reg = s.reg
  count_eq : t.count = s.count
  params_eq : t.params = s.params
  tcnt_eq : t.tcnt.toNat = k

/-- A tick alone goes one tick further into the frame, or, at its length, back to its beginning. -/
theorem State.InFrame.step {s t : State} {k : Nat} (h : s.InFrame t k) {rest : List CycleIn}
    (hin : t.inputs = tickCycle :: rest) :
    ∃ u, step t = .next u ∧ s.InFrame u (if k + 1 = s.frameLength then 0 else k + 1) ∧ u.inputs = rest := by
  have hstep := step_of_configured h.configured
  obtain ⟨hparams, hinputs, -⟩ := step_modelFields hstep
  rw [pins_of_cons hin] at *
  have hticks : cycleEffect tickCycle t.takePins = _ := cycleEffect_of_not_cmdValid rfl rfl _
  have hreg : (cycleEffect tickCycle t.takePins).reg = t.reg := by rw [hticks, reg_beforeCommand]; rfl
  have hcount : (cycleEffect tickCycle t.takePins).count = t.count := by rw [hticks, count_beforeCommand]; rfl
  obtain ⟨hsched, htcnt⟩ := h.inv.onSchedule_step h.onSchedule hstep hreg hcount
  rw [pins_of_cons hin, h.tcnt_eq, frameLength_congr h.reg_eq h.count_eq h.params_eq] at htcnt
  exact ⟨_, hstep, {
    configured := configured_step h.configured hstep
    inv := h.inv.step hstep
    onSchedule := hsched
    reg_eq := hreg.trans h.reg_eq
    count_eq := hcount.trans h.count_eq
    params_eq := hparams.trans h.params_eq
    tcnt_eq := htcnt }, by rw [hinputs, hin]; rfl⟩

/-- Ticks alone, fewer than the frame's length, are counted from its beginning. -/
theorem State.InFrame.run {s : State} (h : s.InFrame s 0) {k : Nat} (hk : k < s.frameLength) {rest : List CycleIn}
    (hin : s.inputs = List.replicate k tickCycle ++ rest) :
    ∃ t, runCycles k s = .next t ∧ s.InFrame t k ∧ t.inputs = rest := by
  have hticks : (List.replicate k tickCycle).countP (·.tickEn) = k :=
    List.countP_replicate.trans (if_pos rfl)
  have hrun := runCycles_of_short (M := s.InFrame) (Q := (· = tickCycle)) (bound := s.frameLength)
    (fun t n p rest h hin hp hlt => ?_) h hin (fun p hp => List.eq_of_mem_replicate hp) (by rwa [hticks, Nat.zero_add])
  · rwa [List.length_replicate, hticks, Nat.zero_add] at hrun
  · subst hp
    obtain ⟨u, hstep, hu, hinu⟩ := h.step hin
    have hne : n + 1 ≠ s.frameLength := hlt.ne
    rw [if_neg hne] at hu
    exact ⟨u, hstep, hu, hinu⟩

/-- Settles O53: the frame start is on schedule, the ticks before the last are counted, and the last one comes back to
count 0, where the schedule fixes the cursor, the threshold and the lines. -/
theorem framePeriodIsExact : Obligations.FramePeriodIsExact := by
  intro s t rest hi ha hcur hexec hwrap hin
  have hs : s.Configured := (exec_eq_next_iff.1 hexec).1
  obtain ⟨hsched, htcnt⟩ := (everyCycleKeepsTheFrameSchedule s t hi).1 ha hcur hexec hwrap
  obtain ⟨-, rfl⟩ := exec_eq_next_iff.1 hexec
  have h : (effect .step s).InFrame (effect .step s) 0 :=
    ⟨effect_configured hs .step, hi.schedulerStep ha, hsched, rfl, rfl, rfl, congrArg BitVec.toNat htcnt⟩
  generalize effect .step s = t at *
  refine ⟨fun k hk => ?_, ?_⟩
  · rw [← Nat.add_sub_cancel' hk.le, List.replicate_add, List.append_assoc] at hin
    obtain ⟨u, hrun, hu, -⟩ := h.run hk hin
    exact ⟨u, hrun, by rw [← hu.tcnt_eq, BitVec.ofNat_toNat, BitVec.setWidth_eq]⟩
  · have hpos : 1 ≤ t.frameLength := Nat.one_le_of_lt (State.slotSum_lt_frameLength h.configured)
    obtain ⟨n, hn⟩ := Nat.exists_eq_add_of_le' hpos
    rw [hn, List.replicate_succ', List.append_assoc] at hin
    obtain ⟨u, hrun, hu, hinu⟩ := h.run (k := n) (by omega) hin
    obtain ⟨v, hstep, hv, hinv⟩ := hu.step hinu
    rw [if_pos hn.symm] at hv
    have hcursor := hv.onSchedule.cursor_of_tcnt_zero hv.configured hv.inv hv.tcnt_eq
    have hcursor' := hsched.cursor_of_tcnt_zero h.configured h.inv h.tcnt_eq
    obtain ⟨hocr, hlevel⟩ := hsched.eq_of_cursor_eq hv.onSchedule hv.reg_eq hv.count_eq hv.params_eq
      (hcursor.trans hcursor'.symm)
    refine ⟨v, ?_, BitVec.eq_of_toNat_eq hv.tcnt_eq, hcursor, hocr, hlevel, hv.reg_eq, hv.count_eq, hinv⟩
    rw [hn, runCycles_add, hrun, andThen_next, runCycles_one, hstep]

end Sys2Proof.Machine
end

section
/-! Thresholds and matches: a step arms ahead of the count (R110), and the count reaches the threshold by counting
(R73). What the dispatcher and the step do where no run brings them. -/

namespace Sys2Proof.Machine

/-! ### Arming -/

/-- A sum that does not wrap is ahead of the count. -/
theorem toNat_lt_toNat_add_ofNat {t : Ticks} {d : Nat} (hd : 1 ≤ d) (hwrap : t.toNat + d < 2 ^ 16) :
    t.toNat < (t + BitVec.ofNat 16 d).toNat := by
  rw [BitVec.toNat_add, BitVec.toNat_ofNat]
  omega

/-- Settles O36: the two branches of the step, the second with the tail's two thresholds. -/
theorem stepArmsStrictlyAhead : Obligations.StepArmsStrictlyAhead := by
  intro s t hexec
  obtain ⟨hs, rfl : t = s.schedulerStep⟩ := exec_eq_next_iff.1 hexec
  obtain ⟨-, -, -, -, hlookahead, -, -⟩ := (paramsWellFormed_iff s.params).1 hs
  have harms {d : Nat} (hd : 1 ≤ d) (hocr : s.schedulerStep.ocr = s.schedulerStep.tcnt + BitVec.ofNat 16 d) :
      1 ≤ d ∧ s.schedulerStep.ocr = s.schedulerStep.tcnt + BitVec.ofNat 16 d ∧
        (s.schedulerStep.tcnt.toNat + d < 2 ^ 16 → s.schedulerStep.tcnt.toNat < s.schedulerStep.ocr.toNat) :=
    ⟨hd, hocr, fun hwrap => hocr ▸ toNat_lt_toNat_add_ofNat hd hwrap⟩
  cases hcur : s.schedulerStep.cursor with
  | some i =>
    obtain ⟨h1, h2, h3⟩ := harms (one_le_slotTicks hs s.reg[i]) (State.ocr_schedulerStep_of_some hcur)
    exact ⟨_, h1, h2, h3, .inl ⟨i, rfl, rfl⟩⟩
  | none =>
    have hocr := State.ocr_schedulerStep_of_none hcur
    split at hocr
    · next hroom =>
      have hsum : s.schedulerStep.tcnt + BitVec.ofNat 16 (s.params.frameTicks - s.schedulerStep.tcnt.toNat) =
          BitVec.ofNat 16 s.params.frameTicks := by
        rw [← tickSum_eq_add, tickSum, Nat.add_sub_cancel' (by omega)]
      obtain ⟨h1, h2, h3⟩ := harms (d := s.params.frameTicks - s.schedulerStep.tcnt.toNat) (by omega)
        (hocr.trans hsum.symm)
      exact ⟨_, h1, h2, h3, .inr ⟨rfl, .inl (by omega)⟩⟩
    · obtain ⟨h1, h2, h3⟩ := harms hlookahead hocr
      exact ⟨_, h1, h2, h3, .inr ⟨rfl, .inr rfl⟩⟩

/-! ### Counting -/

/-- Ticks short of the threshold only count. -/
theorem repeatExec_tick_of_short {n : Nat} {s : State} (hs : s.Configured) (ha : s.armed = true)
    (hn : n < ticksUntil s.tcnt s.ocr) :
    repeatExec .tick n s = .next (s.setCount (s.tcnt + BitVec.ofNat 16 n)) := by
  induction n generalizing s with
  | zero => rw [repeatExec, BitVec.add_zero]; rfl
  | succ n ih =>
    have hne : s.tcnt + 1#16 ≠ s.ocr := fun e => by
      have := (ticksUntil_eq_one_iff _ _).2 e
      omega
    have htick : s.tick = s.setCount (s.tcnt + 1#16) := by
      rw [State.tick_of_armed_eq_ite ha, if_neg hne]
      rfl
    have hleft : n < ticksUntil (s.tcnt + 1#16) s.ocr := by
      rw [ticksUntil_tick (by omega)]
      omega
    have hcount : s.tcnt + 1#16 + BitVec.ofNat 16 n = s.tcnt + BitVec.ofNat 16 (n + 1) := by
      rw [BitVec.add_assoc, BitVec.ofNat_add, BitVec.add_comm (1#16)]
    rw [repeatExec, exec_of_configured hs, andThen_next, effect, htick,
      ih (s := s.setCount (s.tcnt + 1#16)) hs ha hleft, ← hcount]
    rfl

theorem repeatExec_add (i : Instr) (m n : Nat) (s : State) :
    repeatExec i (m + n) s = andThen (repeatExec i m s) (repeatExec i n) := by
  induction m generalizing s with
  | zero => rw [Nat.zero_add]; rfl
  | succ m ih =>
    rw [Nat.succ_add, repeatExec, repeatExec]
    cases exec i s with
    | next u => exact ih u
    | fault r => rfl
    | refused r => rfl

/-- Settles O28: all ticks but the last only count, and the last one reaches the threshold. -/
theorem matchComesAfterTicksUntil : Obligations.MatchComesAfterTicksUntil := by
  intro s hs ha _
  refine ⟨fun n hn => repeatExec_tick_of_short hs ha hn, ?_⟩
  obtain ⟨n, hn⟩ := Nat.exists_eq_add_of_le' (one_le_ticksUntil s.tcnt s.ocr)
  have hshort : n < ticksUntil s.tcnt s.ocr := by omega
  have hreach : s.tcnt + BitVec.ofNat 16 n + 1#16 = s.ocr := by
    rw [← ticksUntil_eq_one_iff, ticksUntil_add_ofNat hshort]
    omega
  have hlast : (s.setCount (s.tcnt + BitVec.ofNat 16 n)).tick = { s with tcnt := s.ocr, cmf := true } := by
    have harmed : (s.setCount (s.tcnt + BitVec.ofNat 16 n)).armed = true := ha
    rw [State.tick_of_armed_eq_ite harmed, State.tcnt_setCount, hreach, State.ocr_setCount, if_pos rfl]
    rfl
  rw [hn, repeatExec_add, repeatExec_tick_of_short hs ha hshort, andThen_next, repeatExec,
    exec_of_configured (by exact hs), effect, hlast]
  rfl

/-! ### Where no run leads -/

/-- Settles O30: either guard alone keeps the dispatcher idle. -/
theorem dispatchNotEnabledChangesNothing : Obligations.DispatchNotEnabledChangesNothing := by
  intro s hs hidle
  rw [exec_of_configured hs]
  exact congrArg _ (hidle.elim State.dispatch_of_not_pending State.dispatch_of_not_armed)

/-- Settles O35: phase A starts a frame at count 0, from where the guard leaves room to the frame boundary. -/
theorem stepWithEmptyRegistry : Obligations.StepWithEmptyRegistry := by
  intro s hs hcur hcount
  obtain ⟨-, hguard, -⟩ := (paramsWellFormed_iff s.params).1 hs
  have hroom : (s.params.frameTicks : Int) - (0#16).toNat > s.params.guardTicks := by simpa using hguard
  have htail : (s.setCount 0#16).enterTail =
      { s with tcnt := 0#16, cursor := none, ocr := BitVec.ofNat 16 s.params.frameTicks } :=
    (State.enterTail_eq _).trans (by rw [State.tcnt_setCount, State.params_setCount, if_pos hroom]; rfl)
  rw [exec_of_configured hs, effect, s.schedulerStep_of_le (s.closeSlot_of_none hcur) hcount.le, htail, ← hcur]

end Sys2Proof.Machine
end

section
/-! What a clock cycle makes of its pins (R134): an idle cycle, a cycle with a command alone, the strobe of a dispatch,
and the last word of a `REGISTER`. -/

namespace Sys2Proof.Machine

/-! ### Cycles without a tick -/

/-- Without a tick and with no match pending the outputs fall before the command, and nothing else happens. -/
theorem beforeCommand_of_no_tick {p : CycleIn} (htick : p.tickEn = false) {s : State} (hcmf : s.cmf = false) :
    beforeCommand p s = s.dropStrobes := by
  rw [beforeCommand, htick, if_neg nofun]
  exact State.dispatch_of_not_pending (s := s.dropStrobes) hcmf

/-- Settles O42: neither of the phases before the command has an effect, and there is no command. -/
theorem idleCycleChangesNothing : Obligations.IdleCycleChangesNothing := by
  intro s p rest hs hcmf hin hr htick hv
  rw [step_of_configured hs, State.pins_of_cons hin, cycleEffect_of_not_cmdValid hr hv,
    beforeCommand_of_no_tick (s := s.takePins) htick hcmf, State.dropStrobes_takePins_of_cons hin]

/-- A command alone in its cycle, with no match pending, is all that the cycle runs. -/
theorem step_of_command_alone {s : State} {p : CycleIn} {rest : List CycleIn} (hs : s.Configured) (hcmf : s.cmf = false)
    (hin : s.inputs = p :: rest) (hr : p.rst = false) (htick : p.tickEn = false) (hv : p.cmdValid = true) :
    step s = exec (decode p.cmdWord)
      { s with rsp := none, cmStrobe := false, inputs := rest, cycle := s.cycle + 1 } := by
  rw [← State.dropStrobes_takePins_of_cons hin, exec_of_configured (s := s.takePins.dropStrobes) hs,
    step_of_configured hs, State.pins_of_cons hin, cycleEffect_of_cmdValid hr hv,
    beforeCommand_of_no_tick (s := s.takePins) htick hcmf]

theorem commandWord_toNat (w : CmdWord) : commandWord 32 w.toNat = w := by
  rw [commandWord, Nat.mod_eq_of_lt w.isLt, BitVec.ofNat_toNat, BitVec.setWidth_eq]

/-- Settles O40: the word decodes to the operation it was written for, and `withFetchWord` lists a cycle with the word
alone. -/
theorem stepRunsTheDecodedCommand : Obligations.StepRunsTheDecodedCommand := by
  intro s i w hs hcmf hw
  obtain rfl := decode_of_encode_eq_some hw
  refine ⟨fun p rest hin hr htick hv hp => ?_, ?_⟩
  · rw [← hp]
    exact step_of_command_alone hs hcmf hin hr htick hv
  · rw [State.withFetchWord, commandWord_toNat]
    exact step_of_command_alone (s := s.presentCommand w) (p := commandCycle w) (rest := s.inputs) hs hcmf rfl rfl rfl
      rfl

/-! ### The strobe -/

/-- No command writes `CURSOR`, `OCR` or `cm_strobe` (R29). -/
theorem effect_command_keeps {i : Instr} (hi : i.wellFormed = true) (s : State) :
    (effect i s).cursor = s.cursor ∧ (effect i s).ocr = s.ocr ∧ (effect i s).cmStrobe = s.cmStrobe := by
  rcases effect_command_cases hi s with ⟨line, rfl⟩ | ⟨⟨hframe, -⟩, -⟩
  · change (s.register line).cursor = _ ∧ (s.register line).ocr = _ ∧ (s.register line).cmStrobe = _
    by_cases hroom : s.count.val < 9
    · rw [s.register_of_room line (i := ⟨s.count.val, hroom⟩) rfl]
      exact ⟨rfl, rfl, rfl⟩
    · rw [s.register_of_full line (by have := s.count.isLt; omega)]
      exact ⟨rfl, rfl, rfl⟩
  · rw [hframe]
    exact ⟨rfl, rfl, rfl⟩

/-- A `Dispatch` raises the strobe exactly where it is enabled (R94). -/
theorem State.cmStrobe_dispatch (s : State) : s.dispatch.cmStrobe = (s.cmStrobe || s.dispatchEnabled) := by
  unfold dispatch
  split
  · next henabled =>
    rw [henabled, Bool.or_true, schedulerStep_frame]
    rfl
  · next hidle => rw [Bool.eq_false_of_not_eq_true hidle, Bool.or_false]

/-- A `Tick` enables the dispatcher exactly by the match that it reaches, or leaves one enabled (R72). -/
theorem State.dispatchEnabled_tick (s : State) :
    s.tick.dispatchEnabled = (s.armed && (s.cmf || s.tcnt + 1#16 == s.ocr)) := by
  cases ha : s.armed with
  | true => rw [s.tick_of_armed ha, dispatchEnabled, ha, Bool.and_comm]
  | false => rw [s.tick_of_not_armed ha, dispatchEnabled, ha, Bool.and_false, Bool.false_and]

/-- Before its command a cycle has raised the strobe exactly if a match was pending or was reached by its tick. -/
theorem State.cmStrobe_beforeCommand (p : CycleIn) (s : State) :
    (beforeCommand p s).cmStrobe = (s.armed && (s.cmf || p.tickEn && s.tcnt + 1#16 == s.ocr)) := by
  rw [beforeCommand, cmStrobe_dispatch]
  cases p.tickEn with
  | true => rw [if_pos rfl, dispatchEnabled_tick, tick_frame, Bool.true_and]; rfl
  | false => rw [if_neg nofun, Bool.false_and, Bool.or_false, Bool.and_comm]; rfl

/-- Settles O44: reset runs no dispatch, and of the phases of another cycle only the dispatch raises the strobe. -/
theorem strobeFollowsDispatch : Obligations.StrobeFollowsDispatch := by
  intro s t hstep
  obtain ⟨-, rfl⟩ := step_eq_next_iff.1 hstep
  cases hr : s.pins.rst with
  | true =>
    rw [cycleEffect_of_rst hr]
    exact ⟨nofun, fun h => nomatch h.1⟩
  | false =>
    have hcommand : (cycleEffect s.pins s.takePins).cmStrobe = (beforeCommand s.pins s.takePins).cmStrobe := by
      rw [cycleEffect_eq_phases hr, phaseEffect]
      split
      · exact (effect_command_keeps (decode_wellFormed _) _).2.2
      · rfl
    rw [hcommand, State.cmStrobe_beforeCommand]
    simp

/-! ### The command's last word, and none before the first registration -/

/-- Settles O45: the command finds the `COUNT` of the cycle's beginning and comes after the step. -/
theorem registerAfterStepLeavesTheLineLow : Obligations.RegisterAfterStepLeavesTheLineLow := by
  intro s p rest l hs hroom hin hr hv hd
  refine ⟨_, step_of_configured hs, ?_⟩
  rw [State.pins_of_cons hin, cycleEffect_of_cmdValid hr hv, hd]
  have hcount : (beforeCommand p s.takePins).count = s.count := s.takePins.count_beforeCommand p
  rw [← hcount] at hroom ⊢
  obtain ⟨hnext, -, -, hdir, hlevel⟩ := State.registry_register_of_room _ l hroom
  exact ⟨Bool.eq_false_of_not_eq_true fun h => ((hlevel l).1 h).1 rfl, (hdir l).2 (.inl rfl), hnext⟩

/-- With an empty registry every command but `REGISTER` finds no entry to write (R81, R82). -/
theorem effect_command_of_empty {i : Instr} (hi : i.wellFormed = true) (hne : ∀ l, i ≠ .register l) {s : State}
    (hc : s.count.val = 0) : effect i s = s := by
  obtain ⟨hwidths, hkept⟩ := (effect_command_cases hi s).resolve_left fun ⟨l, hl⟩ => hne l hl
  exact hwidths.eq_of_width_eq fun j => congrArg Channel.width (hkept j (by omega))

/-- Settles O46: the timer is not armed and the command has nothing to write. -/
theorem inertBeforeRegistration : Obligations.InertBeforeRegistration := by
  intro s p rest hs hi hc hin hr hne
  have hbegin := beforeCommand_of_not_armed p (s := s.takePins) (hi.not_armed_of_count hc)
  rw [step_of_configured hs, State.pins_of_cons hin, cycleEffect_eq_phases hr, hbegin, phaseEffect,
    ← State.dropStrobes_takePins_of_cons hin]
  split
  · next hv =>
    exact congrArg _ (effect_command_of_empty (s := s.takePins.dropStrobes) (decode_wellFormed _) (hne hv) hc)
  · rfl

end Sys2Proof.Machine
end

section
/-! Noninterference (R17, R29): no command reads the cursor, and no operation reads `DIR` or `LEVEL`. A width command
reads the registry, `COUNT` and the configuration only. -/

namespace Sys2Proof.Machine

/-! ### What a width command reads -/

/-- Registries that agree on every line and every width are the same. -/
theorem reg_ext {r q : Vector Channel 9} (hline : ∀ j : ChannelIndex, (r[j]).line = (q[j]).line)
    (hwidth : ∀ j : ChannelIndex, (r[j]).width = (q[j]).width) : r = q :=
  Vector.ext fun n hn => congrArg₂ Channel.mk (hline ⟨n, hn⟩) (hwidth ⟨n, hn⟩)

namespace State

variable {s t : State}

/-- Which width a `SETPULSE.ID` writes, at any identifier (R80, R81). -/
theorem width_setPulseById_eq (s : State) (id : ChannelId) (w : Ticks) (j : ChannelIndex) :
    ((s.setPulseById id w).reg[j]).width =
      if id.toNat < s.count.val ∧ j.val = id.toNat then w else (s.reg[j]).width := by
  by_cases hlive : id.toNat < s.count.val
  · rw [s.width_setPulseById hlive]
    exact if_congr (and_iff_right hlive).symm rfl rfl
  · rw [s.setPulseById_of_count_le (Nat.le_of_not_lt hlive), if_neg fun h => hlive h.1]

theorem width_setPulseById_congr (hreg : t.reg = s.reg) (hcount : t.count = s.count) (id : ChannelId) (w : Ticks)
    (j : ChannelIndex) : ((t.setPulseById id w).reg[j]).width = ((s.setPulseById id w).reg[j]).width := by
  rw [width_setPulseById_eq, width_setPulseById_eq, hreg, hcount]

theorem width_setPulseByLine_congr (hreg : t.reg = s.reg) (hcount : t.count = s.count) (line : Line) (w : Ticks)
    (j : ChannelIndex) : ((t.setPulseByLine line w).reg[j]).width = ((s.setPulseByLine line w).reg[j]).width := by
  rw [width_setPulseByLine, width_setPulseByLine, hreg, hcount]

theorem width_setAngleById_congr (hreg : t.reg = s.reg) (hcount : t.count = s.count) (hparams : t.params = s.params)
    (id : ChannelId) (deg : Degrees) (j : ChannelIndex) :
    ((t.setAngleById id deg).reg[j]).width = ((s.setAngleById id deg).reg[j]).width := by
  rcases Nat.lt_or_ge 180 deg.toNat with hdeg | hdeg
  · rw [t.setAngleById_of_lt hdeg, s.setAngleById_of_lt hdeg, hreg]
  · rw [t.setAngleById_of_le hdeg, s.setAngleById_of_le hdeg, hparams]
    exact width_setPulseById_congr hreg hcount id _ j

theorem width_setAngleByLine_congr (hreg : t.reg = s.reg) (hcount : t.count = s.count) (hparams : t.params = s.params)
    (line : Line) (deg : Degrees) (j : ChannelIndex) :
    ((t.setAngleByLine line deg).reg[j]).width = ((s.setAngleByLine line deg).reg[j]).width := by
  rcases Nat.lt_or_ge 180 deg.toNat with hdeg | hdeg
  · rw [t.setAngleByLine_of_lt hdeg, s.setAngleByLine_of_lt hdeg, hreg]
  · rw [t.setAngleByLine_of_le hdeg, s.setAngleByLine_of_le hdeg, hparams]
    exact width_setPulseByLine_congr hreg hcount line _ j

end State

/-- Every command but `REGISTER` computes the registry from the registry, `COUNT` and the configuration, and writes
nothing else. -/
theorem effect_command_congr {i : Instr} (hi : i.wellFormed = true) (hne : ∀ l, i ≠ .register l) {s t : State}
    (hreg : t.reg = s.reg) (hcount : t.count = s.count) (hparams : t.params = s.params) :
    effect i t = { t with reg := (effect i s).reg } := by
  obtain ⟨⟨hframe, hline⟩, -⟩ := (effect_command_cases hi t).resolve_left fun ⟨l, hl⟩ => hne l hl
  obtain ⟨⟨-, hline'⟩, -⟩ := (effect_command_cases hi s).resolve_left fun ⟨l, hl⟩ => hne l hl
  suffices hwidth : ∀ j : ChannelIndex, ((effect i t).reg[j]).width = ((effect i s).reg[j]).width by
    have heq : (effect i t).reg = (effect i s).reg :=
      reg_ext (fun j => by rw [hline, hline', hreg]) hwidth
    rw [hframe, heq]
  intro j
  cases i with
  | register l => exact absurd rfl (hne l)
  | setpulseId id w => exact State.width_setPulseById_congr hreg hcount id w j
  | setpulseLine line w => exact State.width_setPulseByLine_congr hreg hcount line w j
  | setangleId id deg => exact State.width_setAngleById_congr hreg hcount hparams id deg j
  | setangleLine line deg => exact State.width_setAngleByLine_congr hreg hcount hparams line deg j
  | reserved0 | reserved6 | reserved7 | reserved8 | reserved9 | reservedA | reservedB | reservedC | reservedD
  | reservedE | reservedF =>
    change (t.reg[j]).width = (s.reg[j]).width
    rw [hreg]
  | _ => exact nomatch hi

/-- A `REGISTER` run with another cursor does the same to the rest of the state. -/
theorem State.register_setCursor (s : State) (c : Option ChannelIndex) (line : Line) :
    (s.setCursor c).register line = (s.register line).setCursor c := by
  by_cases hroom : s.count.val < 9
  · rw [s.register_of_room line (i := ⟨s.count.val, hroom⟩) rfl,
      (s.setCursor c).register_of_room line (i := ⟨s.count.val, hroom⟩) rfl]
    rfl
  · have hfull : s.count.val = 9 := by have := s.count.isLt; omega
    rw [s.register_of_full line hfull, (s.setCursor c).register_of_full line hfull]
    rfl

/-- A command run with another cursor does the same to the rest of the state (R17). -/
theorem effect_command_setCursor {i : Instr} (hi : i.wellFormed = true) (s : State) (c : Option ChannelIndex) :
    effect i (s.setCursor c) = (effect i s).setCursor c := by
  by_cases hne : ∀ l, i ≠ .register l
  · rw [effect_command_congr hi hne (s := s) (t := s.setCursor c) rfl rfl rfl,
      effect_command_congr hi hne (s := s) (t := s) rfl rfl rfl]
    rfl
  · obtain ⟨line, rfl⟩ := not_forall_not.1 hne
    exact s.register_setCursor c line

/-- Settles O38: the effect of a command keeps the three, and setting the cursor commutes with it. -/
theorem commandsNeitherReadNorWriteTheCursor : Obligations.CommandsNeitherReadNorWriteTheCursor := by
  intro i s t c hi hexec
  obtain ⟨hs, rfl⟩ := exec_eq_next_iff.1 hexec
  obtain ⟨hcursor, hocr, hstrobe⟩ := effect_command_keeps hi s
  have hother : exec i (s.setCursor c) = .next ((effect i s).setCursor c) := by
    rw [exec_of_configured (s := s.setCursor c) hs, effect_command_setCursor hi]
  exact ⟨hcursor, hocr, hstrobe, hother⟩

/-! ### The line bits -/

/-- The state with other line bits. -/
def State.withLines (s : State) (d v : Vector Bool 32) : State := { s with dir := d, level := v }

/-- Two runs write the same bits with the same values: the one takes `old` to `new`, the other `old'` to `new'`, and a
bit that differs afterwards is one that both kept. -/
def WritesSame (old new old' new' : Vector Bool 32) : Prop :=
  ∀ l : Line, new'[l] = new[l] ∨ new'[l] = old'[l] ∧ new[l] = old[l]

/-- Nothing is written. -/
theorem WritesSame.refl (a a' : Vector Bool 32) : WritesSame a a a' a' := fun _ => .inr ⟨rfl, rfl⟩

/-- One bit is written. -/
theorem WritesSame.set (a a' : Vector Bool 32) (l : Line) (x : Bool) : WritesSame a (a.set l x) a' (a'.set l x) := by
  intro m
  by_cases h : l = m
  · subst h
    simp
  · have hne : l.val ≠ m.val := fun e => h (Fin.ext e)
    simp [hne]

theorem WritesSame.trans {a b c a' b' c' : Vector Bool 32} (h : WritesSame a b a' b') (h' : WritesSame b c b' c') :
    WritesSame a c a' c' := by
  intro l
  rcases h' l with hc | ⟨hc', hc⟩
  · exact .inl hc
  · rw [hc', hc]
    exact h l

/-- From `s`, the function reads no line bit: from other bits it gives the same rest and writes the same bits. -/
def ReadsNoLine (f : State → State) (s : State) : Prop :=
  ∀ d v, ∃ d' v', f (s.withLines d v) = (f s).withLines d' v' ∧
    WritesSame s.dir (f s).dir d d' ∧ WritesSame s.level (f s).level v v'

namespace ReadsNoLine

variable {s : State} {f g : State → State}

/-- A function that keeps the line bits and commutes with a change of them. -/
theorem of_commutes (hf : ∀ d v, f (s.withLines d v) = (f s).withLines d v) (hdir : (f s).dir = s.dir)
    (hlevel : (f s).level = s.level) : ReadsNoLine f s :=
  fun d v => ⟨d, v, hf d v, by rw [hdir]; exact .refl _ _, by rw [hlevel]; exact .refl _ _⟩

theorem comp (hf : ReadsNoLine f s) (hg : ReadsNoLine g (f s)) : ReadsNoLine (g ∘ f) s := by
  intro d v
  obtain ⟨d1, v1, h1, hdir1, hlevel1⟩ := hf d v
  obtain ⟨d2, v2, h2, hdir2, hlevel2⟩ := hg d1 v1
  exact ⟨d2, v2, (congrArg g h1).trans h2, hdir1.trans hdir2, hlevel1.trans hlevel2⟩

/-- What is read of a state is read of the state with other line bits too. -/
theorem congr (hf : ReadsNoLine f s) (h : g s = f s) (h' : ∀ d v, g (s.withLines d v) = f (s.withLines d v)) :
    ReadsNoLine g s := by
  intro d v
  rw [h, h']
  exact hf d v

theorem setLine (s : State) (l : Line) (b : Bool) : ReadsNoLine (·.setLine l b) s :=
  fun d v => ⟨d, v.set l b, rfl, .refl _ _, .set _ _ _ _⟩

theorem configureAsOutput (s : State) (l : Line) : ReadsNoLine (·.configureAsOutput l) s :=
  fun d v => ⟨d.set l true, v, rfl, .set _ _ _ _, .refl _ _⟩

theorem clearAll (s : State) : ReadsNoLine State.clearAll s :=
  fun _ _ => ⟨s.clearAll.dir, s.clearAll.level, rfl, fun _ => .inl rfl, fun _ => .inl rfl⟩

theorem tick (s : State) : ReadsNoLine State.tick s := by
  cases ha : s.armed with
  | true =>
    have htick := s.tick_of_armed ha
    refine of_commutes (fun d v => ?_) (by rw [htick]) (by rw [htick])
    rw [htick, (s.withLines d v).tick_of_armed ha]
    rfl
  | false =>
    have htick := s.tick_of_not_armed ha
    refine of_commutes (fun d v => ?_) (by rw [htick]) (by rw [htick])
    rw [htick, (s.withLines d v).tick_of_not_armed ha]

theorem register (s : State) (line : Line) : ReadsNoLine (·.register line) s := by
  intro d v
  by_cases hroom : s.count.val < 9
  · refine ⟨d.set line true, v.set line false, ?_⟩
    simp only [s.register_of_room line (i := ⟨s.count.val, hroom⟩) rfl,
      (s.withLines d v).register_of_room line (i := ⟨s.count.val, hroom⟩) rfl]
    exact ⟨rfl, .set _ _ _ _, .set _ _ _ _⟩
  · have hfull : s.count.val = 9 := by have := s.count.isLt; omega
    refine ⟨d, v, ?_⟩
    simp only [s.register_of_full line hfull, (s.withLines d v).register_of_full line hfull]
    exact ⟨rfl, .refl _ _, .refl _ _⟩

/-- The other commands keep the line bits and do not read them. -/
theorem command {i : Instr} (hi : i.wellFormed = true) (hne : ∀ l, i ≠ .register l) (s : State) :
    ReadsNoLine (effect i) s := by
  have hself := effect_command_congr hi hne (s := s) (t := s) rfl rfl rfl
  refine of_commutes (fun d v => ?_) (by rw [hself]) (by rw [hself])
  rw [effect_command_congr hi hne (s := s) (t := s.withLines d v) rfl rfl rfl, hself]
  rfl

/-! ### The step -/

theorem openSlot (s : State) (j : ChannelIndex) : ReadsNoLine (·.openSlot j) s := by
  intro d v
  by_cases hw : (s.reg[j]).width = 0#16
  · refine ⟨d, v, ?_⟩
    simp only [s.openSlot_of_skip hw, (s.withLines d v).openSlot_of_skip hw]
    exact ⟨rfl, .refl _ _, .refl _ _⟩
  · refine ⟨d, v.set (s.reg[j]).line true, ?_⟩
    simp only [s.openSlot_of_pulse hw, (s.withLines d v).openSlot_of_pulse hw]
    exact ⟨rfl, .refl _ _, .set _ _ _ _⟩

theorem enterTail (s : State) : ReadsNoLine State.enterTail s := by
  have htail := s.enterTail_eq
  refine of_commutes (fun d v => ?_) (by rw [htail]) (by rw [htail])
  rw [htail, (s.withLines d v).enterTail_eq]
  rfl

/-- Phase A answers the same index whatever the line bits, and it reads none. -/
theorem closeSlot (s : State) :
    (∀ d v, (s.withLines d v).closeSlot.1 = s.closeSlot.1) ∧ ReadsNoLine (·.closeSlot.2) s := by
  cases hcur : s.cursor with
  | none =>
    have hclose := s.closeSlot_of_none hcur
    have hclose' (d v) := (s.withLines d v).closeSlot_of_none hcur
    refine ⟨fun d v => by rw [hclose, hclose'], ?_⟩
    exact congr (f := (·.setCount 0#16)) (of_commutes (fun _ _ => rfl) rfl rfl) (congrArg Prod.snd hclose)
      (fun d v => congrArg Prod.snd (hclose' d v))
  | some i =>
    have hclose := s.closeSlot_of_some hcur
    have hclose' (d v) := (s.withLines d v).closeSlot_of_some hcur
    refine ⟨fun d v => by rw [hclose, hclose'], ?_⟩
    exact congr (setLine s (s.chan i).line false) (congrArg Prod.snd hclose)
      (fun d v => congrArg Prod.snd (hclose' d v))

theorem schedulerStep (s : State) : ReadsNoLine State.schedulerStep s := by
  obtain ⟨hindex, hclose⟩ := closeSlot s
  rcases s.schedulerStep_cases with ⟨i, hi, hlt, e⟩ | ⟨hle, e⟩
  · exact (hclose.comp (openSlot _ i)).congr e fun d v =>
      State.schedulerStep_of_lt _ (Prod.ext ((hindex d v).trans hi.symm) rfl) hlt
  · exact (hclose.comp (enterTail _)).congr e fun d v =>
      State.schedulerStep_of_le _ (Prod.ext (hindex d v) rfl) hle

theorem dispatch (s : State) : ReadsNoLine State.dispatch s := by
  by_cases henabled : s.dispatchEnabled = true
  · have henter : ReadsNoLine State.enterInterrupt s := of_commutes (fun _ _ => rfl) rfl rfl
    exact (henter.comp (schedulerStep _)).congr (if_pos henabled) fun _ _ => if_pos henabled
  · exact congr (f := id) (of_commutes (fun _ _ => rfl) rfl rfl) (if_neg henabled) fun _ _ => if_neg henabled

/-- No operation reads a line bit (R29). -/
theorem effect (i : Instr) (s : State) : ReadsNoLine (Machine.effect i) s := by
  cases i with
  | register line => exact register s line
  | setpulseId _ _ | setpulseLine _ _ | setangleId _ _ | setangleLine _ _ =>
    refine command rfl (fun _ h => ?_) s
    exact nomatch h
  | tick => exact tick s
  | dispatch => exact dispatch s
  | step => exact schedulerStep s
  | reset => exact clearAll s
  | configureAsOutput line => exact configureAsOutput s line
  | setLine line level => exact setLine s line level
  | _ => exact of_commutes (fun _ _ => rfl) rfl rfl

end ReadsNoLine

/-- Settles O39: the effect of an operation reads no line bit, and the check of the configuration does not either. -/
theorem dirAndLevelAreNeverRead : Obligations.DirAndLevelAreNeverRead := by
  intro i s t d v hexec
  obtain ⟨hs, rfl⟩ := exec_eq_next_iff.1 hexec
  obtain ⟨d', v', heffect, hdir, hlevel⟩ := ReadsNoLine.effect i s d v
  have hother : exec i (s.withLines d v) = .next ((effect i s).withLines d' v') := by
    rw [exec_of_configured (s := s.withLines d v) hs, heffect]
  exact ⟨d', v', hother, fun l => ⟨hdir l, hlevel l⟩⟩

end Sys2Proof.Machine
end

section
/-! Identifiers (R79): a sequence of registrations fills the registry in order until it is full. -/

namespace Sys2Proof.Machine

/-- `t` has the registrations of `s` and after them, as far as there is room, the lines in order. -/
structure State.Appends (s : State) (lines : List Line) (t : State) : Prop where
  count_eq : t.count.val = min (s.count.val + lines.length) 9
  old_line : ∀ j : ChannelIndex, j.val < s.count.val → (t.reg[j]).line = (s.reg[j]).line
  new_line : ∀ j : ChannelIndex, s.count.val ≤ j.val → j.val < t.count.val →
    lines[j.val - s.count.val]? = some (t.reg[j]).line

theorem State.Appends.nil (s : State) : s.Appends [] s where
  count_eq := (min_eq_left (Nat.le_of_lt_succ s.count.isLt)).symm
  old_line _ _ := rfl
  new_line _ hge hlt := absurd hlt (Nat.not_lt.2 hge)

/-- One `REGISTER` before the others fills the entry of index `COUNT`, or finds no room, and then neither do they
(R75, R76). -/
theorem State.Appends.cons {s t : State} {line : Line} {lines : List Line}
    (h : (s.register line).Appends lines t) : s.Appends (line :: lines) t := by
  obtain ⟨hcount, hold, hnew⟩ := h
  by_cases hroom : s.count.val < 9
  · obtain ⟨hnext, hentry, hkept, -⟩ := s.registry_register_of_room line hroom
    rw [hnext] at hcount hold hnew
    refine ⟨by rw [hcount, List.length_cons]; omega, fun j hj => (hold j (by omega)).trans (hkept j hj),
      fun j hge hlt => ?_⟩
    rcases Nat.eq_or_lt_of_le hge with heq | hgt
    · obtain rfl : j = ⟨s.count.val, hroom⟩ := Fin.ext heq.symm
      rw [hold _ (Nat.lt_succ_self _), hentry, Nat.sub_self, List.getElem?_cons_zero]
    · have hsub : j.val - s.count.val = j.val - (s.count.val + 1) + 1 := by omega
      rw [hsub, List.getElem?_cons_succ]
      exact hnew j hgt hlt
  · have hfull : s.count.val = 9 := by have := s.count.isLt; omega
    rw [s.register_of_full line hfull] at hcount hold
    have hmin (n : Nat) : min (s.count.val + n) 9 = 9 := by omega
    exact ⟨by rw [hcount]; exact (hmin _).trans (hmin _).symm, hold, fun j hge _ => by omega⟩

/-- A sequence of registrations, from any fill of the registry. -/
theorem execAll_register (lines : List Line) {s : State} (hs : s.Configured) :
    ∃ t, execAll (lines.map Instr.register) s = .next t ∧ t.Configured ∧ s.Appends lines t := by
  induction lines generalizing s with
  | nil => exact ⟨s, rfl, hs, .nil s⟩
  | cons line lines ih =>
    obtain ⟨t, hrun, ht, h⟩ := ih (effect_configured hs (.register line))
    refine ⟨t, ?_, ht, .cons h⟩
    rw [List.map_cons, execAll, exec_of_configured hs, andThen_next, hrun]

/-- Settles O8: from an empty registry the entries are the lines in order, and the next `REGISTER` responds `COUNT`. -/
theorem identifiersCountUpFromZero : Obligations.IdentifiersCountUpFromZero := by
  intro lines line s hs hc
  obtain ⟨t, hrun, ht, hcount, -, hnew⟩ := execAll_register lines hs
  rw [hc, Nat.zero_add] at hcount
  refine ⟨t, t.register line, hrun, exec_of_configured ht _, hcount, ?_, fun j hj => ?_⟩
  · have hroom : t.count.val < 9 ↔ lines.length < 9 := by omega
    rw [t.rsp_register, if_congr hroom rfl rfl]
    split
    · next hlt => rw [hcount, min_eq_left hlt.le]
    · rfl
  · rw [← hnew j (by omega) hj, hc, Nat.sub_zero]

end Sys2Proof.Machine
end
